-- ==== Sys2Proof/Word.lean ====
section
/-! DEFINITION. The words of the KModbus engine: bytes and 16-bit values (spec/00_scope.md R8, R9). -/

namespace Sys2Proof

/-- A byte: 8 bits (R9). -/
abbrev Byte := BitVec 8

/-- A 16-bit unsigned value: a register unit, a frame field of two bytes, a counter (`COUNTER_W` = 16, R6, R35).
Arithmetic on it wraps modulo 65536 (R8, R35). -/
abbrev Word := BitVec 16

end Sys2Proof
end

