-- ==== Sys2Proof/Config.lean ====
section
/-! DEFINITION. What an implementation fixes (spec/00_scope.md R6) and the free values, which nothing fixes. -/

namespace Sys2Proof

/-- `BUF_SIZE`: the size of the receive buffer and of the transmit buffer, in bytes (R6; 90_conflicts.md C8). -/
abbrev bufSize : Nat := 268

/-- A buffer of `BUF_SIZE` bytes (R22, R23). -/
abbrev Buffer := Vector Byte bufSize

/-- `CANCEL_MIDFRAME`: whether a cancel request is honoured inside a bounded wait (R6, R292). -/
inductive CancelPolicy where
  | always
  | never
  | either
deriving DecidableEq, Repr

/-- An interval in milliseconds: "a positive integer" (R6, `T_NOCOMM` and `T_QUIET`). -/
abbrev Interval := { ms : Nat // 0 < ms }

/-- The parameters of R6, "fixed at initialization": none changes while the engine runs. -/
structure Config where
  /-- `SLAVE_ID` (R27): any byte, no value is special (R101, D31). -/
  slaveId : Byte
  /-- `CAP_COILS`, in bits. -/
  capCoils : Nat
  /-- `CAP_DI`, in bits. -/
  capDI : Nat
  /-- `CAP_IR`, in 16-bit units. -/
  capIR : Nat
  /-- `CAP_HR`, in 16-bit units. -/
  capHR : Nat
  /-- `T_NOCOMM`, in milliseconds. -/
  tNocomm : Interval
  /-- `SILENCE_WAIT_EN`. -/
  silenceWaitEn : Bool
  /-- `T_QUIET`, in milliseconds; used only when `silenceWaitEn`. -/
  tQuiet : Interval
  /-- `TICK_W`: the width of the tick counter, in bits (R43). -/
  tickW : Nat
  /-- `CANCEL_MIDFRAME`. -/
  cancelMidframe : CancelPolicy
deriving DecidableEq, Repr

/-- The configuration of `State.reset`: the defaults of R6 where it gives one (capacities 10000, no silence wait,
`either`); `SLAVE_ID` = 1 as in every example of the spec.
DESIGN CHOICE (log 2), unsafe: `SLAVE_ID`, `T_NOCOMM`, `T_QUIET` and `TICK_W` are OPEN in R6. -/
def Config.standard : Config where
  slaveId := 0x01#8
  capCoils := 10000
  capDI := 10000
  capIR := 10000
  capHR := 10000
  tNocomm := ⟨1000, by decide⟩
  silenceWaitEn := false
  tQuiet := ⟨10, by decide⟩
  tickW := 32
  cancelMidframe := .either

/-- FREE VALUE (log 7): whether the engine accepts the cancel request offered in a bounded wait under
`CANCEL_MIDFRAME = either` ("opportunistically", R292; 93_implementation_defined.md U4). The argument is
`State.freeCount`, so every draw is fresh. -/
opaque Config.acceptsCancel : Nat → Bool

/-- FREE VALUE (log 8): the content of `tx_buf` between transactions, which R23 and R45 leave unspecified.
The argument is `State.freeCount`. -/
opaque Config.staleTxBuf : Nat → Buffer

end Sys2Proof
end

