-- ==== Sys2Proof/Machine/State.lean ====
section
/-! DEFINITION. The machine's state as plain data, the reasons a step can stop, and the state after reset
(spec/10_state.md, spec/20_memory.md R60, spec/70_reset_and_hazards.md R381). -/

namespace Sys2Proof.Machine

/-- A bank of units of `w` bits, as (offset, unit) pairs in one canonical form: offsets strictly rising, no unit equal
to what an unlisted offset reads as (`bankUnlisted`, Ops.lean). The spec's smallest addressable unit is a bit in two
banks and a 16-bit value in the other two, never a byte (R60, R71); log 14. -/
abbrev Bank (w : Nat) := List (Nat × BitVec w)

/-- The four banks of the process-data store (R60). -/
structure Memory where
  coils : Bank 1
  discreteInputs : Bank 1
  inputRegisters : Bank 16
  holdingRegisters : Bank 16
deriving DecidableEq, Repr

/-- The two bit banks. -/
inductive BitBank where
  | coils
  | discreteInputs
deriving DecidableEq, Repr

/-- The two register banks. -/
inductive RegBank where
  | inputRegisters
  | holdingRegisters
deriving DecidableEq, Repr

/-- One of the four banks. -/
inductive BankId where
  | bits (b : BitBank)
  | regs (b : RegBank)
deriving DecidableEq, Repr

/-- `rx_state` (R24): the program-counter analogue. ValidateCRC and Dispatch are phases of one step, no values. -/
inductive RxState where
  | awaitId
  | awaitFunction
  | readFixedFields
  | readVariableFields
  | silenceWait
deriving DecidableEq, Repr

/-- `run_status` (R26). -/
inductive RunStatus where
  | running
  | completed
  | failed
deriving DecidableEq, Repr

/-- The input events of the session agent (R39), and the poll that finds no byte (R43). -/
inductive Event where
  /-- `get_byte` returned the byte. -/
  | rxByte (b : Byte)
  /-- No byte arrived for `T_NOCOMM` milliseconds in this bounded wait. -/
  | timeout
  /-- No byte arrived for `T_QUIET` milliseconds in the silence wait. -/
  | quiet
  /-- The external cancellation check answered yes. -/
  | cancel
  /-- `get_byte` returned no data: the elapsed time is examined (R43, R343; log 13). -/
  | noData
deriving DecidableEq, Repr

/-- What the host agent does (R41, R145, R146), and its re-entry of the session loop (R26, R296). A flat address is any
integer (R64). -/
inductive HostOp where
  | flatRead (f : Int)
  | flatWrite (f : Int) (v : Word)
  | enterLoop
deriving DecidableEq, Repr

/-- One input of the machine, in the order things happen (R5): an event of the session agent, an operation of the host
agent, or the tick source advancing by some milliseconds (R43, R353). -/
inductive Input where
  | session (e : Event)
  | host (op : HostOp)
  | tick (ms : Nat)
deriving DecidableEq, Repr

/-- The answer of one `put_bytes` call (R40). -/
inductive TxAnswer where
  /-- Every byte was written. -/
  | ok
  /-- The transmission failed after `written` bytes (any prefix of the frame, R40, U7). -/
  | fail (written : Nat)
deriving DecidableEq, Repr

/-- The machine's state. The first block is "exactly" the engine's state (R20); the others are the timer refinement
of R43, the configuration (R6, constant; log 2) and the interfaces of R39 to R42 as data (logs 3, 4, 7, 11, 12, 18). -/
structure State where
  /-- The four banks (R37, R60). -/
  mem : Memory
  /-- `rx_buf` (R22). -/
  rxBuf : Buffer
  /-- `tx_buf` (R23). -/
  txBuf : Buffer
  /-- `rx_state` (R24). -/
  rxState : RxState
  /-- `rx_len` (R25). -/
  rxLen : Nat
  /-- `rx_need` (R25). -/
  rxNeed : Nat
  /-- `run_status` (R26). -/
  runStatus : RunStatus
  /-- `listen_only` (R28). -/
  listenOnly : Bool
  /-- `MessageCount` (R29). -/
  messageCount : Word
  /-- `EventCount` (R30). -/
  eventCount : Word
  /-- `CRCErrorCount` (R31). -/
  crcErrorCount : Word
  /-- `DiagnosticRegister` (R32). -/
  diagnosticRegister : Word
  /-- `ExceptionErrorCount` (R33). -/
  exceptionErrorCount : Word
  /-- `NoResponseCount` (R34). -/
  noResponseCount : Word
  /-- `t0` (R43): the tick recorded when the current wait began. -/
  t0 : Nat
  /-- The external tick counter as it stands now (R43, R353). -/
  tick : Nat
  /-- The parameters (R6): written by no step. -/
  cfg : Config
  /-- MODEL (log 3): what the environment and the host do next, oldest first (R39, R41). -/
  inputs : List Input
  /-- MODEL (log 4): the answers of the coming `put_bytes` calls, oldest first; past the end of the list, `ok` (R40). -/
  txAnswers : List TxAnswer
  /-- MODEL (log 7): a cancel request no bounded wait accepted, for the next `AwaitID` (R292). -/
  cancelPending : Bool
  /-- MODEL (log 12): every byte written to the line, in order (R40). -/
  line : List Byte
  /-- MODEL (log 11): what FlatRead returned to the host, in order (R41, R145). -/
  hostReads : List Word
  /-- MODEL (log 18): how many free values have been drawn. -/
  freeCount : Nat
deriving DecidableEq, Repr

/-- Why the machine stops. The engine "has no trap that stops it" (R11): each of these stands for register contents
that no rule of the spec reaches (log 20), and is raised by the receiver (Receiver.lean). -/
inductive Fault where
  /-- `rx_need` is 0 in a reading state when a byte arrives: R283 and R284 decrement it from at least 1.
  Raised by the receiver. Safe: no state the rules reach raises it. -/
  | sequencerCorrupt
  /-- `rx_len` is `BUF_SIZE` or more when a byte is to be stored: R22 and R396 say it never is.
  Raised by the receiver. Safe: no state the rules reach raises it. -/
  | bufferOverrun
  /-- A complete frame with a good CRC that is no frame of R92: its function byte or its length is not one the receiver
  lets through (R282, R287). Raised by the receiver. Safe: no state the rules reach raises it. -/
  | frameNotDecoded
deriving DecidableEq, Repr

/-- What the model declines. -/
inductive Refusal where
  /-- An instruction without a meaning; raised by a refused arm of `exec` only. Safe. Every row has a meaning here. -/
  | notModelled (mnemonic : String)
  /-- The next input is one the spec says is never offered in this state ("A pair not listed is never offered", R294,
  R39): `Timeout` outside the bounded waits of a frame, `Quiet` outside the silence wait, re-entering a loop that has
  not ended. Raised by the receiver and the host port. Safe: the script of inputs is no run of the spec (log 5). -/
  | eventNotOffered
deriving DecidableEq, Repr

/-- The machine after reset under a given configuration (R44, R45, R381). The contents of the two buffers are
unspecified there: DESIGN CHOICE all zero (logs 8, 9). The fields that are not the engine's start empty. -/
def State.init (cfg : Config) : State where
  mem := { coils := [], discreteInputs := [], inputRegisters := [], holdingRegisters := [] }
  rxBuf := Vector.replicate bufSize 0x00#8
  txBuf := Vector.replicate bufSize 0x00#8
  rxState := .awaitId
  rxLen := 0
  rxNeed := 0
  runStatus := .running
  listenOnly := false
  messageCount := 0x0000#16
  eventCount := 0x0000#16
  crcErrorCount := 0x0000#16
  diagnosticRegister := 0x0000#16
  exceptionErrorCount := 0x0000#16
  noResponseCount := 0x0000#16
  t0 := 0
  tick := 0
  cfg := cfg
  inputs := []
  txAnswers := []
  cancelPending := false
  line := []
  hostReads := []
  freeCount := 0

/-- The machine right after reset, under the standard configuration (log 2). -/
def State.reset : State := State.init Config.standard

end Sys2Proof.Machine
end

