-- ==== Sys2Proof/Machine/Flags.lean ====
section
/-! DEFINITION. The flag and the counters of the engine (spec/10_state.md R28 to R36): every way one of them changes.
An increment of 0xFFFF gives 0x0000 (R35). -/

namespace Sys2Proof.Machine

/-- `listen_only` takes a value (R28). -/
def setListenOnly (v : Bool) (s : State) : State := { s with listenOnly := v }

/-- `MessageCount <- MessageCount + 1` (R29). -/
def countMessage (s : State) : State := { s with messageCount := s.messageCount + 1 }

/-- `NoResponseCount <- NoResponseCount + 1` (R34). -/
def countNoResponse (s : State) : State := { s with noResponseCount := s.noResponseCount + 1 }

/-- `EventCount <- EventCount + 1` (R30). -/
def countEvent (s : State) : State := { s with eventCount := s.eventCount + 1 }

/-- `CRCErrorCount <- CRCErrorCount + 1` (R31). -/
def countCrcError (s : State) : State := { s with crcErrorCount := s.crcErrorCount + 1 }

/-- `ExceptionErrorCount <- ExceptionErrorCount + 1` (R33). -/
def countException (s : State) : State := { s with exceptionErrorCount := s.exceptionErrorCount + 1 }

/-- `MessageCount <- 0` (R222). -/
def clearMessageCount (s : State) : State := { s with messageCount := 0x0000#16 }

/-- `EventCount <- 0` (R222). -/
def clearEventCount (s : State) : State := { s with eventCount := 0x0000#16 }

/-- All six counters to 0 (R225). -/
def clearCounters (s : State) : State :=
  { s with messageCount := 0x0000#16, eventCount := 0x0000#16, crcErrorCount := 0x0000#16,
           diagnosticRegister := 0x0000#16, exceptionErrorCount := 0x0000#16, noResponseCount := 0x0000#16 }

/-- Pre-dispatch counting (R286): every CRC-valid frame is a message; in listen-only mode it is also one that gets no
response, function 08 included. -/
def preDispatch (s : State) : State :=
  if s.listenOnly = true then countNoResponse (countMessage s) else countMessage s

end Sys2Proof.Machine
end

