-- ==== Sys2Proof/Syntax.lean ====
section
/-! DEFINITION. The instructions: one constructor per row of spec/opcode_table.json, in the table's order.
An instruction of this hardware is one request frame (spec/30_encoding.md). -/

namespace Sys2Proof

/-- A request frame's fields (R92). `id` is byte 0, the slave identity of the frame, which the reply echoes (R98);
the CRC bytes are no operand: `encode` computes them and ValidateCRC checks them (R133, R285; log 16). -/
inductive Instr where
  /-- Function 01, Read Coils (R171). -/
  | rdcoil (id : Byte) (address count : Word)
  /-- Function 02, Read Discrete Inputs (R172). -/
  | rddi (id : Byte) (address count : Word)
  /-- Function 03, Read Holding Registers (R173). -/
  | rdhr (id : Byte) (address count : Word)
  /-- Function 04, Read Input Registers (R174). -/
  | rdir (id : Byte) (address count : Word)
  /-- Function 05, Force Single Coil (R190). -/
  | wrcoil (id : Byte) (address value : Word)
  /-- Function 06, Preset Single Register (R191). -/
  | wrhr (id : Byte) (address value : Word)
  /-- Function 08 sub-function 0, echo (R221). -/
  | diagEcho (id : Byte) (data : Word)
  /-- Function 08 sub-function 1, restart (R222). -/
  | diagRestart (id : Byte) (data : Word)
  /-- Function 08 sub-function 2, return DiagnosticRegister (R223). -/
  | diagRdreg (id : Byte) (data : Word)
  /-- Function 08 sub-function 4, enter listen-only mode (R224). -/
  | diagListen (id : Byte) (data : Word)
  /-- Function 08 sub-function 10, clear the counters (R225). -/
  | diagClear (id : Byte) (data : Word)
  /-- Function 08 sub-function 11, return MessageCount (R226). -/
  | diagMsg11 (id : Byte) (data : Word)
  /-- Function 08 sub-function 12, return CRCErrorCount (R228). -/
  | diagCrc12 (id : Byte) (data : Word)
  /-- Function 08 sub-function 13, return ExceptionErrorCount (R229). -/
  | diagExc13 (id : Byte) (data : Word)
  /-- Function 08 sub-function 14, return MessageCount (R227). -/
  | diagMsg14 (id : Byte) (data : Word)
  /-- Function 08 sub-function 15, return NoResponseCount (R231). -/
  | diagNoresp15 (id : Byte) (data : Word)
  /-- Function 08 sub-function 17, return ExceptionErrorCount (R230). -/
  | diagExc17 (id : Byte) (data : Word)
  /-- Function 08 sub-function 18, return 0 (R232). -/
  | diagZero18 (id : Byte) (data : Word)
  /-- Function 08, every other sub-function (R233). -/
  | diagOther (id : Byte) (sub data : Word)
  /-- Function 11, Fetch Event Counter (R260). -/
  | evcnt (id : Byte)
  /-- Function 12, Fetch Event Log (R261). -/
  | evlog (id : Byte)
  /-- Function 15, Force Multiple Coils (R192). -/
  | wrcoils (id : Byte) (address count : Word) (byteCount : Byte) (data : List Byte)
  /-- Function 16, Preset Multiple Registers (R193). -/
  | wrhrs (id : Byte) (address count : Word) (byteCount : Byte) (data : List Byte)
  /-- Function 17, Report Slave ID (R262). -/
  | slvid (id : Byte)
deriving DecidableEq, Repr

end Sys2Proof
end

