-- ==== Sys2Proof/WellFormed.lean ====
section
/-! DEFINITION. The checks a term of `Instr` must pass to be a request frame (spec/30_encoding.md R92, R97). -/

namespace Sys2Proof

/-- The sub-function codes of function 08 that have a row of their own (R97), in the table's order. -/
def diagSubFunctions : List Word :=
  [0x0000#16, 0x0001#16, 0x0002#16, 0x0004#16, 0x000A#16, 0x000B#16, 0x000C#16, 0x000D#16, 0x000E#16, 0x000F#16,
   0x0011#16, 0x0012#16]

/-- An instruction is well formed when some frame encodes it: the data of functions 15 and 16 are as many bytes as the
byte-count field says (R92, R96), and `DIAG.OTHER` carries a sub-function no other row has (R97, R104). Every other
field takes every value of its width (R91, R101). -/
def Instr.wf : Instr → Bool
  | .rdcoil _ _ _ => true
  | .rddi _ _ _ => true
  | .rdhr _ _ _ => true
  | .rdir _ _ _ => true
  | .wrcoil _ _ _ => true
  | .wrhr _ _ _ => true
  | .diagEcho _ _ => true
  | .diagRestart _ _ => true
  | .diagRdreg _ _ => true
  | .diagListen _ _ => true
  | .diagClear _ _ => true
  | .diagMsg11 _ _ => true
  | .diagCrc12 _ _ => true
  | .diagExc13 _ _ => true
  | .diagMsg14 _ _ => true
  | .diagNoresp15 _ _ => true
  | .diagExc17 _ _ => true
  | .diagZero18 _ _ => true
  | .diagOther _ sub _ => decide (sub ∉ diagSubFunctions)
  | .evcnt _ => true
  | .evlog _ => true
  | .wrcoils _ _ _ byteCount data => decide (data.length = byteCount.toNat)
  | .wrhrs _ _ _ byteCount data => decide (data.length = byteCount.toNat)
  | .slvid _ => true

end Sys2Proof
end

