-- ==== Sys2Proof/Decode.lean ====
section
/-! DEFINITION. Frames to instructions and back (spec/30_encoding.md): the function-code map, the length tables, the
decoder, total on any bytes, the encoder, and the host's view of one table word.
The decoder looks at neither the slave identity (the receiver matches it, R104, R281) nor the two CRC bytes
(ValidateCRC comes before dispatch, R285): log 16. -/

namespace Sys2Proof

open Sys2Proof.Machine

/-- The twelve supported function codes (R94), decimal (R93; log 21). -/
inductive FunctionCode where
  | f01 | f02 | f03 | f04 | f05 | f06 | f08 | f11 | f12 | f15 | f16 | f17
deriving DecidableEq, Repr

/-- The wire byte of a function code (R94). -/
def functionByte : FunctionCode → Byte
  | .f01 => 0x01#8
  | .f02 => 0x02#8
  | .f03 => 0x03#8
  | .f04 => 0x04#8
  | .f05 => 0x05#8
  | .f06 => 0x06#8
  | .f08 => 0x08#8
  | .f11 => 0x0B#8
  | .f12 => 0x0C#8
  | .f15 => 0x0F#8
  | .f16 => 0x10#8
  | .f17 => 0x11#8

/-- The function-code map (R94, R99): "gaps are invalid codes". Bytes above `MAX_FC` = 0x17 and unregistered bytes
at most 0x17 are treated alike (R99; 90_conflicts.md C1, C2), so `MAX_FC` decides nothing. -/
def functionOfByte (b : Byte) : Option FunctionCode :=
  match b.toNat with
  | 1 => some .f01
  | 2 => some .f02
  | 3 => some .f03
  | 4 => some .f04
  | 5 => some .f05
  | 6 => some .f06
  | 8 => some .f08
  | 11 => some .f11
  | 12 => some .f12
  | 15 => some .f15
  | 16 => some .f16
  | 17 => some .f17
  | _ => none

/-- `FIXED_LEN` (R95): how many bytes the receiver reads after the function code before it knows the frame's length. -/
def fixedLen : FunctionCode → Nat
  | .f01 => 6
  | .f02 => 6
  | .f03 => 6
  | .f04 => 6
  | .f05 => 6
  | .f06 => 6
  | .f08 => 6
  | .f11 => 2
  | .f12 => 2
  | .f15 => 5
  | .f16 => 5
  | .f17 => 2

/-- Functions 15 and 16 have a variable part (R96). -/
def hasVariablePart : FunctionCode → Bool
  | .f01 => false
  | .f02 => false
  | .f03 => false
  | .f04 => false
  | .f05 => false
  | .f06 => false
  | .f08 => false
  | .f11 => false
  | .f12 => false
  | .f15 => true
  | .f16 => true
  | .f17 => false

/-- Why bytes are no request frame. -/
inductive DecodeError where
  /-- Fewer bytes than the frame's length (R92, R95, R96). -/
  | truncated
  /-- Byte 1 is none of the twelve function codes (R99). -/
  | unsupportedFunction
deriving DecidableEq, Repr

/-- The rest of a format Q4 frame after byte 1 (R92): field1, field2 and what follows the frame. -/
def takeQ4 : List Byte → Except DecodeError (Word × Word × List Byte)
  | h1 :: l1 :: h2 :: l2 :: _ :: _ :: tail => .ok (be16 h1 l1, be16 h2 l2, tail)
  | _ => .error .truncated

/-- The rest of a format Q0 frame after byte 1 (R92): what follows the frame. -/
def takeQ0 : List Byte → Except DecodeError (List Byte)
  | _ :: _ :: tail => .ok tail
  | _ => .error .truncated

/-- The fields of a format QV frame after byte 1 (R92, R96). -/
structure FieldsQV where
  address : Word
  count : Word
  byteCount : Byte
  data : List Byte
  tail : List Byte
deriving DecidableEq, Repr

/-- The rest of a format QV frame after byte 1 (R92): the length is taken from the byte-count field alone (R96). -/
def takeQV : List Byte → Except DecodeError FieldsQV
  | h1 :: l1 :: h2 :: l2 :: bc :: rest =>
    if rest.length < bc.toNat + 2 then .error .truncated
    else .ok { address := be16 h1 l1, count := be16 h2 l2, byteCount := bc,
               data := rest.take bc.toNat, tail := rest.drop (bc.toNat + 2) }
  | _ => .error .truncated

/-- The diagnostic sub-function map (R97): the whole 16-bit field is compared (R233). -/
def decodeDiag (id : Byte) (sub data : Word) : Instr :=
  match sub.toNat with
  | 0 => .diagEcho id data
  | 1 => .diagRestart id data
  | 2 => .diagRdreg id data
  | 4 => .diagListen id data
  | 10 => .diagClear id data
  | 11 => .diagMsg11 id data
  | 12 => .diagCrc12 id data
  | 13 => .diagExc13 id data
  | 14 => .diagMsg14 id data
  | 15 => .diagNoresp15 id data
  | 17 => .diagExc17 id data
  | 18 => .diagZero18 id data
  | _ => .diagOther id sub data

/-- The frame with slave identity `id` and function `f` whose bytes after byte 1 are `rest`, and what follows it
(R92, R94). -/
def decodeFields (id : Byte) (f : FunctionCode) (rest : List Byte) : Except DecodeError (Instr × List Byte) :=
  match f with
  | .f01 => (takeQ4 rest).map fun (address, count, tail) => (.rdcoil id address count, tail)
  | .f02 => (takeQ4 rest).map fun (address, count, tail) => (.rddi id address count, tail)
  | .f03 => (takeQ4 rest).map fun (address, count, tail) => (.rdhr id address count, tail)
  | .f04 => (takeQ4 rest).map fun (address, count, tail) => (.rdir id address count, tail)
  | .f05 => (takeQ4 rest).map fun (address, value, tail) => (.wrcoil id address value, tail)
  | .f06 => (takeQ4 rest).map fun (address, value, tail) => (.wrhr id address value, tail)
  | .f08 => (takeQ4 rest).map fun (sub, data, tail) => (decodeDiag id sub data, tail)
  | .f11 => (takeQ0 rest).map fun tail => (.evcnt id, tail)
  | .f12 => (takeQ0 rest).map fun tail => (.evlog id, tail)
  | .f15 => (takeQV rest).map fun q => (.wrcoils id q.address q.count q.byteCount q.data, q.tail)
  | .f16 => (takeQV rest).map fun q => (.wrhrs id q.address q.count q.byteCount q.data, q.tail)
  | .f17 => (takeQ0 rest).map fun tail => (.slvid id, tail)

/-- The decoder: the frame at the head of a byte sequence and the bytes after it, or the reason there is none. -/
def decode : List Byte → Except DecodeError (Instr × List Byte)
  | id :: fc :: rest =>
    match functionOfByte fc with
    | some f => decodeFields id f rest
    | none => .error .unsupportedFunction
  | _ => .error .truncated

/-! The encoder, from the same frame formats (R92, R94, R97). -/

/-- The body of a format Q4 frame (R92). -/
def bodyQ4 (id : Byte) (f : FunctionCode) (field1 field2 : Word) : List Byte :=
  [id, functionByte f, hi8 field1, lo8 field1, hi8 field2, lo8 field2]

/-- The body of a format QV frame (R92). -/
def bodyQV (id : Byte) (f : FunctionCode) (address count : Word) (byteCount : Byte) (data : List Byte) : List Byte :=
  [id, functionByte f, hi8 address, lo8 address, hi8 count, lo8 count, byteCount] ++ data

/-- A frame without its two CRC bytes (00_scope.md, glossary "body"). -/
def encodeBody : Instr → List Byte
  | .rdcoil id address count => bodyQ4 id .f01 address count
  | .rddi id address count => bodyQ4 id .f02 address count
  | .rdhr id address count => bodyQ4 id .f03 address count
  | .rdir id address count => bodyQ4 id .f04 address count
  | .wrcoil id address value => bodyQ4 id .f05 address value
  | .wrhr id address value => bodyQ4 id .f06 address value
  | .diagEcho id data => bodyQ4 id .f08 0x0000#16 data
  | .diagRestart id data => bodyQ4 id .f08 0x0001#16 data
  | .diagRdreg id data => bodyQ4 id .f08 0x0002#16 data
  | .diagListen id data => bodyQ4 id .f08 0x0004#16 data
  | .diagClear id data => bodyQ4 id .f08 0x000A#16 data
  | .diagMsg11 id data => bodyQ4 id .f08 0x000B#16 data
  | .diagCrc12 id data => bodyQ4 id .f08 0x000C#16 data
  | .diagExc13 id data => bodyQ4 id .f08 0x000D#16 data
  | .diagMsg14 id data => bodyQ4 id .f08 0x000E#16 data
  | .diagNoresp15 id data => bodyQ4 id .f08 0x000F#16 data
  | .diagExc17 id data => bodyQ4 id .f08 0x0011#16 data
  | .diagZero18 id data => bodyQ4 id .f08 0x0012#16 data
  | .diagOther id sub data => bodyQ4 id .f08 sub data
  | .evcnt id => [id, functionByte .f11]
  | .evlog id => [id, functionByte .f12]
  | .wrcoils id address count byteCount data => bodyQV id .f15 address count byteCount data
  | .wrhrs id address count byteCount data => bodyQV id .f16 address count byteCount data
  | .slvid id => [id, functionByte .f17]

/-- The frame of a well-formed instruction: its body and the CRC of the body, low byte first (R90, R132). -/
def encode (i : Instr) : List Byte := appendCrc (encodeBody i)

/-- The slave-identity byte of a frame. -/
def instrId : Instr → Byte
  | .rdcoil id _ _ => id
  | .rddi id _ _ => id
  | .rdhr id _ _ => id
  | .rdir id _ _ => id
  | .wrcoil id _ _ => id
  | .wrhr id _ _ => id
  | .diagEcho id _ => id
  | .diagRestart id _ => id
  | .diagRdreg id _ => id
  | .diagListen id _ => id
  | .diagClear id _ => id
  | .diagMsg11 id _ => id
  | .diagCrc12 id _ => id
  | .diagExc13 id _ => id
  | .diagMsg14 id _ => id
  | .diagNoresp15 id _ => id
  | .diagExc17 id _ => id
  | .diagZero18 id _ => id
  | .diagOther id _ _ => id
  | .evcnt id => id
  | .evlog id => id
  | .wrcoils id _ _ _ _ => id
  | .wrhrs id _ _ _ _ => id
  | .slvid id => id

/-- The function code of a frame (R94). -/
def instrFunction : Instr → FunctionCode
  | .rdcoil _ _ _ => .f01
  | .rddi _ _ _ => .f02
  | .rdhr _ _ _ => .f03
  | .rdir _ _ _ => .f04
  | .wrcoil _ _ _ => .f05
  | .wrhr _ _ _ => .f06
  | .diagEcho _ _ => .f08
  | .diagRestart _ _ => .f08
  | .diagRdreg _ _ => .f08
  | .diagListen _ _ => .f08
  | .diagClear _ _ => .f08
  | .diagMsg11 _ _ => .f08
  | .diagCrc12 _ _ => .f08
  | .diagExc13 _ _ => .f08
  | .diagMsg14 _ _ => .f08
  | .diagNoresp15 _ _ => .f08
  | .diagExc17 _ _ => .f08
  | .diagZero18 _ _ => .f08
  | .diagOther _ _ _ => .f08
  | .evcnt _ => .f11
  | .evlog _ => .f12
  | .wrcoils _ _ _ _ _ => .f15
  | .wrhrs _ _ _ _ _ => .f16
  | .slvid _ => .f17

/-! The host's view of one word of spec/opcode_table.json (R104; log 17). -/

/-- The bytes of a table word. The table numbers `W = rx[0] * 2^24 + rx[1] * 2^16 + rx[2] * 2^8 + rx[3]` (R104): the
first byte is bits 31 to 24. Bits from 32 up, which no row has, are the bytes after it in order. -/
def tableBytes (nbits w : Nat) : List Byte :=
  let v := w % 2 ^ nbits
  [BitVec.ofNat 8 (v >>> 24), BitVec.ofNat 8 (v >>> 16), BitVec.ofNat 8 (v >>> 8), BitVec.ofNat 8 v]
    ++ (List.range ((nbits - 32) / 8)).map fun k => BitVec.ofNat 8 (v >>> (32 + 8 * k))

/-- A table word's bytes followed by zeros up to the longest frame, 264 bytes (R103). -/
def tableFrame (nbits w : Nat) : List Byte := tableBytes nbits w ++ List.replicate 260 0x00#8

/-- What the decoder reads from a table word whose further bytes are zeros; `none` where it refuses. -/
def decodeTableWord (nbits w : Nat) : Option Instr :=
  match decode (tableFrame nbits w) with
  | .ok (i, _) => some i
  | .error _ => none

end Sys2Proof
end

