-- ==== Sys2Proof/Machine/Operands.lean ====
section
/-! DEFINITION. The operand forms of the requests (spec/20_memory.md R68, R70, spec/30_encoding.md R91, R98): packed
bits, big-endian registers, byte-counts, and the bodies of the replies. -/

namespace Sys2Proof.Machine

/-- The byte whose bit `j` is `b j`, from bit 0 up (R9). -/
def byteOfBits (b : Nat → Bool) : Byte :=
  (BitVec.ofBool (b 7) ++ BitVec.ofBool (b 6) ++ BitVec.ofBool (b 5) ++ BitVec.ofBool (b 4)
    ++ BitVec.ofBool (b 3) ++ BitVec.ofBool (b 2) ++ BitVec.ofBool (b 1) ++ BitVec.ofBool (b 0) : BitVec 8)

/-- `ceil(n / 8)` in integers (R8). -/
def bytesForBits (n : Nat) : Nat := (n + 7) / 8

/-- Units of a bit bank packed LSB first, bit 0 of byte 0 the first unit, the unused high bits of the last byte zero
(R70, R140). -/
def packBits (units : List (BitVec 1)) : List Byte :=
  (List.range (bytesForBits units.length)).map fun k => byteOfBits fun j => (units.getD (8 * k + j) 0#1).getLsbD 0

/-- `data[i div 8][i mod 8]` (R141). -/
def packedBit (data : List Byte) (i : Nat) : BitVec 1 := BitVec.ofBool ((data.getD (i / 8) 0x00#8).getLsbD (i % 8))

/-- The first `n` bits of a packed array (R141): what is above them is ignored. -/
def unpackBits (data : List Byte) (n : Nat) : List (BitVec 1) := (List.range n).map (packedBit data)

/-- Registers as bytes, high byte first (R68, R142). -/
def registersToBytes (units : List Word) : List Byte := units.flatMap fun v => [hi8 v, lo8 v]

/-- `be16(data[2*i], data[2*i + 1])` (R143). -/
def packedRegister (data : List Byte) (i : Nat) : Word := be16 (data.getD (2 * i) 0x00#8) (data.getD (2 * i + 1) 0x00#8)

/-- The first `n` registers of a byte array (R143): bytes after them are ignored. -/
def bytesToRegisters (data : List Byte) (n : Nat) : List Word := (List.range n).map (packedRegister data)

/-- A request's slave identity and function code, `rx[0]` and `rx[1]` (R98, R160). -/
structure Header where
  id : Byte
  function : FunctionCode
deriving DecidableEq, Repr

/-- The header as bytes. -/
def headerBytes (h : Header) : List Byte := [h.id, functionByte h.function]

/-- Two fields of two bytes, high byte first (R68): the payload of every echo (R163), of "Return X" (R234) and of
function 11 (R260). -/
def twoFields (field1 field2 : Word) : List Byte := [hi8 field1, lo8 field1, hi8 field2, lo8 field2]

/-- The payload of a read response: the byte-count and the data (R98). -/
def countedData (byteCount : Nat) (data : List Byte) : List Byte := BitVec.ofNat 8 byteCount :: data

end Sys2Proof.Machine
end

