-- ==== Sys2Proof/Machine/Ops.lean ====
section
/-! DEFINITION. The operations the instructions share: the banks (spec/20_memory.md, spec/41_store_ops.md), the frame
codec (spec/42_frame_codec.md), transmission, taking a wire exception (spec/60_exceptions.md R344) and the transaction
(spec/47_receiver.md R286 to R290, R297). -/

namespace Sys2Proof.Machine

/-! ## One bank -/

/-- What an offset nothing has written reads as: the reset contents, zero (R44 "banks zero-filled"). -/
def bankUnlisted (w : Nat) : BitVec w := 0#w

/-- `bank[a]` (R10). -/
def bankRead {w : Nat} : Bank w → Nat → BitVec w
  | [], _ => bankUnlisted w
  | (k, v) :: rest, a => if k = a then v else bankRead rest a

/-- `bank[a] <- v` (R10), keeping the canonical form: writing the value an unlisted offset reads as removes the entry. -/
def bankWrite {w : Nat} : Bank w → Nat → BitVec w → Bank w
  | [], a, v => if v = bankUnlisted w then [] else [(a, v)]
  | (k, x) :: rest, a, v =>
    if a < k then (if v = bankUnlisted w then (k, x) :: rest else (a, v) :: (k, x) :: rest)
    else if a = k then (if v = bankUnlisted w then rest else (a, v) :: rest)
    else (k, x) :: bankWrite rest a v

/-- Every listed offset is at least `lo`, offsets rise strictly, and no unit is the value of an unlisted offset. -/
def bankWfFrom {w : Nat} : Nat → Bank w → Bool
  | _, [] => true
  | lo, (k, v) :: rest => decide (lo ≤ k) && decide (v ≠ bankUnlisted w) && bankWfFrom (k + 1) rest

/-- The canonical form of a bank. -/
def bankWf {w : Nat} (b : Bank w) : Bool := bankWfFrom 0 b

/-- Every listed offset is below a capacity: nothing was ever stored out of bounds (R61, R396). -/
def bankBelow {w : Nat} (cap : Nat) (b : Bank w) : Bool := b.all fun e => decide (e.1 < cap)

/-- The canonical form of the store. -/
def Memory.wf (m : Memory) : Bool :=
  bankWf m.coils && bankWf m.discreteInputs && bankWf m.inputRegisters && bankWf m.holdingRegisters

/-- `MemRead(bank, a, n)` (R10). -/
def bankReadRange {w : Nat} (b : Bank w) (a n : Nat) : List (BitVec w) := (List.range n).map fun i => bankRead b (a + i)

/-- `MemWrite(bank, a, len(vs), vs)` (R10): `bank[a+i] <- vs[i]`. -/
def bankWriteRange {w : Nat} : Bank w → Nat → List (BitVec w) → Bank w
  | b, _, [] => b
  | b, a, v :: vs => bankWriteRange (bankWrite b a v) (a + 1) vs

/-! ## The four banks of a state -/

/-- A bit bank's contents. -/
def bitBank (s : State) : BitBank → Bank 1
  | .coils => s.mem.coils
  | .discreteInputs => s.mem.discreteInputs

/-- A register bank's contents. -/
def regBank (s : State) : RegBank → Bank 16
  | .inputRegisters => s.mem.inputRegisters
  | .holdingRegisters => s.mem.holdingRegisters

/-- A bit bank's capacity (R6). -/
def bitCap (c : Config) : BitBank → Nat
  | .coils => c.capCoils
  | .discreteInputs => c.capDI

/-- A register bank's capacity (R6). -/
def regCap (c : Config) : RegBank → Nat
  | .inputRegisters => c.capIR
  | .holdingRegisters => c.capHR

/-- A bank's capacity (R6). -/
def bankCap (c : Config) : BankId → Nat
  | .bits b => bitCap c b
  | .regs b => regCap c b

/-- Replace a bit bank's contents. -/
def setBitBank (b : BitBank) (v : Bank 1) (s : State) : State :=
  match b with
  | .coils => { s with mem := { s.mem with coils := v } }
  | .discreteInputs => { s with mem := { s.mem with discreteInputs := v } }

/-- Replace a register bank's contents. -/
def setRegBank (b : RegBank) (v : Bank 16) (s : State) : State :=
  match b with
  | .inputRegisters => { s with mem := { s.mem with inputRegisters := v } }
  | .holdingRegisters => { s with mem := { s.mem with holdingRegisters := v } }

/-- One unit of one bank as a 16-bit value, a bit zero-extended (R145): the read of one byte of this hardware. -/
def unitAt (s : State) (b : BankId) (a : Nat) : Word :=
  match b with
  | .bits b => (bankRead (bitBank s b) a).setWidth 16
  | .regs b => bankRead (regBank s b) a

/-! ## The four bank operations -/

/-- The error kinds a handler raises, which become an exception reply (R340). -/
inductive WireException where
  | addressOutOfRange
  | invalidParameter
  | unsupportedFunction
deriving DecidableEq, Repr

/-- The error kinds that abort a frame (R340). -/
inductive FramingAbort where
  | timeout
  | crcMismatch
deriving DecidableEq, Repr

/-- "The engine distinguishes exactly six error kinds" (R340). -/
inductive ErrorKind where
  | wire (k : WireException)
  | framing (k : FramingAbort)
  | transportFailure
deriving DecidableEq, Repr

/-- `GetBits(bank, address, length)` on a bank of capacity `cap` (R140). -/
def getBits (b : Bank 1) (cap address length : Nat) : Except WireException (List Byte) :=
  if address + length > cap then .error .addressOutOfRange else .ok (packBits (bankReadRange b address length))

/-- `SetBits(bank, address, length, data)` (R141): the bank after it, or the error raised before any write. -/
def setBits (b : Bank 1) (cap address length : Nat) (data : List Byte) : Except WireException (Bank 1) :=
  if address + length > cap then .error .addressOutOfRange
  else .ok (bankWriteRange b address (unpackBits data length))

/-- `GetRegisters(bank, address, length)` (R142). -/
def getRegisters (b : Bank 16) (cap address length : Nat) : Except WireException (List Byte) :=
  if address + length > cap then .error .addressOutOfRange else .ok (registersToBytes (bankReadRange b address length))

/-- `SetRegisters(bank, address, length, data)` (R143). -/
def setRegisters (b : Bank 16) (cap address length : Nat) (data : List Byte) : Except WireException (Bank 16) :=
  if address + length > cap then .error .addressOutOfRange
  else .ok (bankWriteRange b address (bytesToRegisters data length))

/-! ## The frame codec -/

/-- `ExcCode` (R161, R341). -/
def excCode : WireException → Byte
  | .unsupportedFunction => 0x01#8
  | .addressOutOfRange => 0x02#8
  | .invalidParameter => 0x03#8

/-- The code on the wire of each of the six kinds; three have none (R341). -/
def wireCode : ErrorKind → Option Byte
  | .wire k => some (excCode k)
  | .framing _ => none
  | .transportFailure => none

/-- `BuildException(requestHeader, errorKind)` (R160, R100). -/
def buildException (h : Header) (k : WireException) : List Byte :=
  appendCrc [h.id, functionByte h.function ||| 0x80#8, excCode k]

/-- `BuildResponse(header, payload)` (R162). -/
def buildResponse (h : Header) (payload : List Byte) : List Byte := appendCrc (headerBytes h ++ payload)

/-! ## Transmission -/

/-- The frame has been built in `tx_buf` and handed on; what the buffer then holds is unspecified (R23): a free value
(log 8). -/
def settleTxBuf (s : State) : State := { s with txBuf := Config.staleTxBuf s.freeCount, freeCount := s.freeCount + 1 }

/-- Bytes reach the line, and one answer of `put_bytes` is used up. -/
def putOnLine (bytes : List Byte) (answers : List TxAnswer) (s : State) : State :=
  { s with line := s.line ++ bytes, txAnswers := answers }

/-- `transmit(f)` (R40): the bytes that reached the line, in index order, and whether `put_bytes` answered `ok`. -/
def transmit (frame : List Byte) (s : State) : State × Bool :=
  match s.txAnswers with
  | [] => (putOnLine frame [] s, true)
  | .ok :: rest => (putOnLine frame rest s, true)
  | .fail written :: rest => (putOnLine (frame.take written) rest s, false)

/-- The transmit gate (R289): `loEntry` is `listen_only` as it was at handler entry. In listen-only mode the frame is
built and dropped. -/
def send (loEntry : Bool) (frame : List Byte) (s : State) : State × Bool :=
  if loEntry = true then (settleTxBuf s, true) else transmit frame (settleTxBuf s)

/-! ## The end of a transaction -/

/-- The state the receiver goes to after a transaction (R297 step 6). -/
def restState (c : Config) : RxState := if c.silenceWaitEn = true then .silenceWait else .awaitId

/-- Step 6 of R297; a silence wait begins now (R43). -/
def endTransaction (s : State) : State :=
  { s with rxLen := 0, rxState := restState s.cfg, t0 := if s.cfg.silenceWaitEn = true then s.tick else s.t0 }

/-- Transport failure (R290, R348): the run ends, the silence wait is skipped, nothing is undone. -/
def failRun (s : State) : State := { s with runStatus := .failed, rxLen := 0, rxState := .awaitId }

/-- What follows a transmission: R297 step 6, or R290. -/
def finish (r : State × Bool) : State := if r.2 = true then endTransaction r.1 else failRun r.1

/-! ## Taking a wire exception, and the commit of the other outcomes -/

/-- Exception entry (R344, R288): ExceptionErrorCount counts, the exception frame is built and, unless `loEntry`,
transmitted; nothing is saved and no mode changes; the receiver goes back to the top of the loop. There is no return
from an exception (R346): `endTransaction` is where control goes after a success as after an exception. -/
def takeException (h : Header) (k : WireException) (loEntry : Bool) (s : State) : State :=
  finish (send loEntry (buildException h k) (countException s))

/-- What a handler ends in (R288). An exception carries no state: a handler that raises has written nothing (R10, R345).
`eventCleared` says that the handler set EventCount to 0 (R295). -/
inductive HandlerResult where
  | reply (s : State) (payload : List Byte) (eventCleared : Bool)
  | exception (k : WireException)
  | noReply (s : State)
deriving DecidableEq, Repr

/-- Commit of `Reply` (R288): EventCount counts unless this handler cleared it (R295), before the transmission. -/
def commitReply (h : Header) (payload : List Byte) (eventCleared loEntry : Bool) (s : State) : State :=
  finish (send loEntry (buildResponse h payload) (if eventCleared = true then s else countEvent s))

/-- The dispatch predicate (R287): in listen-only mode only function 08 runs. -/
def handlerRuns (h : Header) (loEntry : Bool) : Bool := !loEntry || decide (h.function = .f08)

/-- The transaction of a CRC-valid frame (R297): pre-dispatch counting, the latched flag and the dispatch predicate,
the handler, the commit of its outcome. One indivisible step (R297, D34). -/
def transaction (h : Header) (handler : State → HandlerResult) (s : State) : State :=
  let s1 := preDispatch s
  if handlerRuns h s1.listenOnly = true then
    match handler s1 with
    | .reply s2 payload eventCleared => commitReply h payload eventCleared s1.listenOnly s2
    | .exception k => takeException h k s1.listenOnly s1
    | .noReply s2 => endTransaction s2
  else endTransaction s1

end Sys2Proof.Machine
end

