-- ==== Sys2Proof/Machine/Diagnostics.lean ====
section
/-! DEFINITION. Function 08, Diagnostics (spec/45_diagnostics.md). The handler runs in listen-only mode too (R236):
`transaction` does all of its state changes and only the transmission is gated. The values reported and cleared are
those after the pre-dispatch counting (R220). -/

namespace Sys2Proof.Machine

/-- The transaction of a function 08 frame. -/
def diagTransaction (id : Byte) (handler : State → HandlerResult) (s : State) : Host.Outcome State Fault Refusal :=
  .next (transaction ⟨id, .f08⟩ handler s)

/-- The form of a "Return X" reply: the sub-function echoed and the value in place of the data (R234; log 25). -/
def returnValue (sub v : Word) (s : State) : HandlerResult := .reply s (twoFields sub v) false

/-- The handler of sub-function 1 (R222). -/
def restartHandler (data : Word) (s : State) : HandlerResult :=
  let s1 := setListenOnly false (clearMessageCount s)
  if data = 0xFF00#16 then .reply (clearEventCount s1) (twoFields 0x0001#16 data) true
  else .reply s1 (twoFields 0x0001#16 data) false

/-- DIAG.ECHO (R221). -/
def execDiagEcho (id : Byte) (data : Word) (s : State) : Host.Outcome State Fault Refusal :=
  diagTransaction id (fun s1 => .reply s1 (twoFields 0x0000#16 data) false) s

/-- DIAG.RESTART (R222). -/
def execDiagRestart (id : Byte) (data : Word) (s : State) : Host.Outcome State Fault Refusal :=
  diagTransaction id (restartHandler data) s

/-- DIAG.RDREG (R223); the data field is ignored (R235). -/
def execDiagRdreg (id : Byte) (_data : Word) (s : State) : Host.Outcome State Fault Refusal :=
  diagTransaction id (fun s1 => returnValue 0x0002#16 s1.diagnosticRegister s1) s

/-- DIAG.LISTEN (R224); the data field is ignored (R235). -/
def execDiagListen (id : Byte) (_data : Word) (s : State) : Host.Outcome State Fault Refusal :=
  diagTransaction id (fun s1 => .noReply (setListenOnly true s1)) s

/-- DIAG.CLEAR (R225). -/
def execDiagClear (id : Byte) (data : Word) (s : State) : Host.Outcome State Fault Refusal :=
  diagTransaction id (fun s1 => .reply (clearCounters s1) (twoFields 0x000A#16 data) true) s

/-- DIAG.MSG11 (R226); the data field is ignored (R235). -/
def execDiagMsg11 (id : Byte) (_data : Word) (s : State) : Host.Outcome State Fault Refusal :=
  diagTransaction id (fun s1 => returnValue 0x000B#16 s1.messageCount s1) s

/-- DIAG.CRC12 (R228); the data field is ignored (R235). -/
def execDiagCrc12 (id : Byte) (_data : Word) (s : State) : Host.Outcome State Fault Refusal :=
  diagTransaction id (fun s1 => returnValue 0x000C#16 s1.crcErrorCount s1) s

/-- DIAG.EXC13 (R229); the data field is ignored (R235). -/
def execDiagExc13 (id : Byte) (_data : Word) (s : State) : Host.Outcome State Fault Refusal :=
  diagTransaction id (fun s1 => returnValue 0x000D#16 s1.exceptionErrorCount s1) s

/-- DIAG.MSG14 (R227); the data field is ignored (R235). -/
def execDiagMsg14 (id : Byte) (_data : Word) (s : State) : Host.Outcome State Fault Refusal :=
  diagTransaction id (fun s1 => returnValue 0x000E#16 s1.messageCount s1) s

/-- DIAG.NORESP15 (R231); the data field is ignored (R235). -/
def execDiagNoresp15 (id : Byte) (_data : Word) (s : State) : Host.Outcome State Fault Refusal :=
  diagTransaction id (fun s1 => returnValue 0x000F#16 s1.noResponseCount s1) s

/-- DIAG.EXC17 (R230); the data field is ignored (R235). -/
def execDiagExc17 (id : Byte) (_data : Word) (s : State) : Host.Outcome State Fault Refusal :=
  diagTransaction id (fun s1 => returnValue 0x0011#16 s1.exceptionErrorCount s1) s

/-- DIAG.ZERO18 (R232); the data field is ignored (R235). -/
def execDiagZero18 (id : Byte) (_data : Word) (s : State) : Host.Outcome State Fault Refusal :=
  diagTransaction id (fun s1 => returnValue 0x0012#16 0x0000#16 s1) s

/-- DIAG.OTHER (R233): every other sub-function takes the exception. -/
def execDiagOther (id : Byte) (_sub _data : Word) (s : State) : Host.Outcome State Fault Refusal :=
  diagTransaction id (fun _ => .exception .unsupportedFunction) s

end Sys2Proof.Machine
end

