-- ==== Sys2Proof/Machine/InfoFunctions.lean ====
section
/-! DEFINITION. Functions 11, 12, 17 (spec/46_info_functions.md). The values reported are those after MessageCount's
increment for this frame and before EventCount's for this reply (R263). The reserved bytes are 0x00 (R261, R262; D15,
log 26). -/

namespace Sys2Proof.Machine

/-- EVCNT (R260): status 0x0000 and EventCount. -/
def execEvcnt (id : Byte) (s : State) : Host.Outcome State Fault Refusal :=
  .next (transaction ⟨id, .f11⟩ (fun s1 => .reply s1 (twoFields 0x0000#16 s1.eventCount) false) s)

/-- The payload of function 12 (R261). -/
def eventLogPayload (eventCount messageCount : Word) : List Byte :=
  [0x08#8, 0x00#8, 0x00#8, hi8 eventCount, lo8 eventCount, hi8 messageCount, lo8 messageCount, 0x00#8, 0x00#8]

/-- EVLOG (R261). -/
def execEvlog (id : Byte) (s : State) : Host.Outcome State Fault Refusal :=
  .next (transaction ⟨id, .f12⟩ (fun s1 => .reply s1 (eventLogPayload s1.eventCount s1.messageCount) false) s)

/-- The payload of function 17 (R262): the configured identity, run indicator 0xFF, six reserved bytes. -/
def slaveIdPayload (slaveId : Byte) : List Byte :=
  [0x08#8, slaveId, 0xFF#8, 0x00#8, 0x00#8, 0x00#8, 0x00#8, 0x00#8, 0x00#8]

/-- SLVID (R262). -/
def execSlvid (id : Byte) (s : State) : Host.Outcome State Fault Refusal :=
  .next (transaction ⟨id, .f17⟩ (fun s1 => .reply s1 (slaveIdPayload s1.cfg.slaveId) false) s)

end Sys2Proof.Machine
end

