-- ==== Sys2Proof/Machine/ReadFunctions.lean ====
section
/-! DEFINITION. Functions 01, 02, 03, 04 (spec/43_read_functions.md). -/

namespace Sys2Proof.Machine

/-- The handler of functions 01 and 02 (R171, R172): the byte-count check (R175) comes before the address check. -/
def readBitsHandler (b : BitBank) (address count : Word) (s : State) : HandlerResult :=
  if bytesForBits count.toNat > 255 then .exception .invalidParameter
  else
    match getBits (bitBank s b) (bitCap s.cfg b) address.toNat count.toNat with
    | .error k => .exception k
    | .ok data => .reply s (countedData (bytesForBits count.toNat) data) false

/-- The handler of functions 03 and 04 (R173, R174). -/
def readRegistersHandler (b : RegBank) (address count : Word) (s : State) : HandlerResult :=
  if count.toNat * 2 > 255 then .exception .invalidParameter
  else
    match getRegisters (regBank s b) (regCap s.cfg b) address.toNat count.toNat with
    | .error k => .exception k
    | .ok data => .reply s (countedData (count.toNat * 2) data) false

/-- RDCOIL (R171). -/
def execRdcoil (id : Byte) (address count : Word) (s : State) : Host.Outcome State Fault Refusal :=
  .next (transaction ⟨id, .f01⟩ (readBitsHandler .coils address count) s)

/-- RDDI (R172). -/
def execRddi (id : Byte) (address count : Word) (s : State) : Host.Outcome State Fault Refusal :=
  .next (transaction ⟨id, .f02⟩ (readBitsHandler .discreteInputs address count) s)

/-- RDHR (R173). -/
def execRdhr (id : Byte) (address count : Word) (s : State) : Host.Outcome State Fault Refusal :=
  .next (transaction ⟨id, .f03⟩ (readRegistersHandler .holdingRegisters address count) s)

/-- RDIR (R174). -/
def execRdir (id : Byte) (address count : Word) (s : State) : Host.Outcome State Fault Refusal :=
  .next (transaction ⟨id, .f04⟩ (readRegistersHandler .inputRegisters address count) s)

end Sys2Proof.Machine
end

