-- ==== Sys2Proof/Machine/WriteFunctions.lean ====
section
/-! DEFINITION. Functions 05, 06, 15, 16 (spec/44_write_functions.md). Value checks come before address checks (R194). -/

namespace Sys2Proof.Machine

/-- `SetBits(Coils, …)` and the reply, or the exception it raises with nothing written (R141, R144). -/
def writeCoils (address count : Word) (length : Nat) (data : List Byte) (s : State) : HandlerResult :=
  match setBits (bitBank s .coils) (bitCap s.cfg .coils) address.toNat length data with
  | .error k => .exception k
  | .ok bank => .reply (setBitBank .coils bank s) (twoFields address count) false

/-- `SetRegisters(HoldingRegisters, …)` and the reply, or the exception it raises with nothing written (R143, R144). -/
def writeRegisters (address count : Word) (length : Nat) (data : List Byte) (s : State) : HandlerResult :=
  match setRegisters (regBank s .holdingRegisters) (regCap s.cfg .holdingRegisters) address.toNat length data with
  | .error k => .exception k
  | .ok bank => .reply (setRegBank .holdingRegisters bank s) (twoFields address count) false

/-- The handler of function 05 (R190): only 0x0000 and 0xFF00 are legal; 0xFF00 writes a 1 (D17, log 24). -/
def wrcoilHandler (address value : Word) (s : State) : HandlerResult :=
  if value ≠ 0x0000#16 ∧ value ≠ 0xFF00#16 then .exception .invalidParameter
  else writeCoils address value 1 [if value = 0xFF00#16 then 0x01#8 else 0x00#8] s

/-- The handler of function 06 (R191). -/
def wrhrHandler (address value : Word) (s : State) : HandlerResult :=
  writeRegisters address value 1 [hi8 value, lo8 value] s

/-- The handler of function 15 (R192): the byte-count must be `ceil(count / 8)`, compared as integers. -/
def wrcoilsHandler (address count : Word) (byteCount : Byte) (data : List Byte) (s : State) : HandlerResult :=
  if byteCount.toNat ≠ bytesForBits count.toNat then .exception .invalidParameter
  else writeCoils address count count.toNat data s

/-- The handler of function 16 (R193): the byte-count must be `count * 2`, compared as integers. -/
def wrhrsHandler (address count : Word) (byteCount : Byte) (data : List Byte) (s : State) : HandlerResult :=
  if byteCount.toNat ≠ count.toNat * 2 then .exception .invalidParameter
  else writeRegisters address count count.toNat data s

/-- WRCOIL (R190). -/
def execWrcoil (id : Byte) (address value : Word) (s : State) : Host.Outcome State Fault Refusal :=
  .next (transaction ⟨id, .f05⟩ (wrcoilHandler address value) s)

/-- WRHR (R191). -/
def execWrhr (id : Byte) (address value : Word) (s : State) : Host.Outcome State Fault Refusal :=
  .next (transaction ⟨id, .f06⟩ (wrhrHandler address value) s)

/-- WRCOILS (R192). -/
def execWrcoils (id : Byte) (address count : Word) (byteCount : Byte) (data : List Byte) (s : State) :
    Host.Outcome State Fault Refusal :=
  .next (transaction ⟨id, .f15⟩ (wrcoilsHandler address count byteCount data) s)

/-- WRHRS (R193). -/
def execWrhrs (id : Byte) (address count : Word) (byteCount : Byte) (data : List Byte) (s : State) :
    Host.Outcome State Fault Refusal :=
  .next (transaction ⟨id, .f16⟩ (wrhrsHandler address count byteCount data) s)

end Sys2Proof.Machine
end

