-- ==== Sys2Proof/Machine/Dispatch.lean ====
section
/-! DEFINITION. The meaning of every instruction: one arm per constructor of Instr, one definition per arm. -/

namespace Sys2Proof.Machine

open Sys2Proof

def exec (i : Instr) (s : State) : Host.Outcome State Fault Refusal :=
  match i with
  | .rdcoil id address count => Sys2Proof.Machine.execRdcoil id address count s
  | .rddi id address count => Sys2Proof.Machine.execRddi id address count s
  | .rdhr id address count => Sys2Proof.Machine.execRdhr id address count s
  | .rdir id address count => Sys2Proof.Machine.execRdir id address count s
  | .wrcoil id address value => Sys2Proof.Machine.execWrcoil id address value s
  | .wrhr id address value => Sys2Proof.Machine.execWrhr id address value s
  | .diagEcho id data => Sys2Proof.Machine.execDiagEcho id data s
  | .diagRestart id data => Sys2Proof.Machine.execDiagRestart id data s
  | .diagRdreg id data => Sys2Proof.Machine.execDiagRdreg id data s
  | .diagListen id data => Sys2Proof.Machine.execDiagListen id data s
  | .diagClear id data => Sys2Proof.Machine.execDiagClear id data s
  | .diagMsg11 id data => Sys2Proof.Machine.execDiagMsg11 id data s
  | .diagCrc12 id data => Sys2Proof.Machine.execDiagCrc12 id data s
  | .diagExc13 id data => Sys2Proof.Machine.execDiagExc13 id data s
  | .diagMsg14 id data => Sys2Proof.Machine.execDiagMsg14 id data s
  | .diagNoresp15 id data => Sys2Proof.Machine.execDiagNoresp15 id data s
  | .diagExc17 id data => Sys2Proof.Machine.execDiagExc17 id data s
  | .diagZero18 id data => Sys2Proof.Machine.execDiagZero18 id data s
  | .diagOther id sub data => Sys2Proof.Machine.execDiagOther id sub data s
  | .evcnt id => Sys2Proof.Machine.execEvcnt id s
  | .evlog id => Sys2Proof.Machine.execEvlog id s
  | .wrcoils id address count byteCount data => Sys2Proof.Machine.execWrcoils id address count byteCount data s
  | .wrhrs id address count byteCount data => Sys2Proof.Machine.execWrhrs id address count byteCount data s
  | .slvid id => Sys2Proof.Machine.execSlvid id s

end Sys2Proof.Machine
end

