-- ==== Sys2Proof/Machine/HostPort.lean ====
section
/-! DEFINITION. The host agent: the flat-address operations (spec/41_store_ops.md section 2, spec/20_memory.md R63 to
R66) and the re-entry of the session loop (spec/47_receiver.md R296). -/

namespace Sys2Proof.Machine

/-- The four ranges of R63; everything else resolves to no operation (R64). -/
def flatRange (f : Int) : Option (BankId × Nat) :=
  if 1 ≤ f ∧ f ≤ 9999 then some (.bits .coils, (f - 1).toNat)
  else if 10001 ≤ f ∧ f ≤ 19999 then some (.bits .discreteInputs, (f - 10001).toNat)
  else if 30001 ≤ f ∧ f ≤ 39999 then some (.regs .inputRegisters, (f - 30001).toNat)
  else if 40001 ≤ f ∧ f ≤ 49999 then some (.regs .holdingRegisters, (f - 40001).toNat)
  else none

/-- `FlatResolve(f)` (R147): an offset at or above the bank's capacity resolves to no operation (R65). -/
def flatResolve (c : Config) (f : Int) : Option (BankId × Nat) :=
  match flatRange f with
  | none => none
  | some (b, o) => if o < bankCap c b then some (b, o) else none

/-- `FlatRead(f)` (R145): no error, ever. -/
def flatRead (s : State) (f : Int) : Word :=
  match flatResolve s.cfg f with
  | none => 0x0000#16
  | some (b, o) => unitAt s b o

/-- One unit of one bank takes a value; a bit bank stores 1 for any non-zero value (R146). -/
def setUnit (b : BankId) (o : Nat) (v : Word) (s : State) : State :=
  match b with
  | .bits b => setBitBank b (bankWrite (bitBank s b) o (if v = 0x0000#16 then 0#1 else 1#1)) s
  | .regs b => setRegBank b (bankWrite (regBank s b) o v) s

/-- `FlatWrite(f, v)` (R146): all four banks are writable (R66); no error, ever. -/
def flatWrite (f : Int) (v : Word) (s : State) : State :=
  match flatResolve s.cfg f with
  | none => s
  | some (b, o) => setUnit b o v s

/-- The host enters the loop again after the run has ended (R296): `rx_state = AwaitID`,
`rx_len = 0`, everything else but `run_status` kept. -/
def enterLoop (s : State) : State := { s with runStatus := .running, rxState := .awaitId, rxLen := 0 }

/-- One operation of the host agent, in any state of the engine (R5, R296). Entering a loop that has not ended is never
offered: the spec has one session agent (R356; log 5). -/
def hostStep (op : HostOp) (s : State) : Host.Outcome State Fault Refusal :=
  match op with
  | .flatRead f => .next { s with hostReads := s.hostReads ++ [flatRead s f] }
  | .flatWrite f v => .next (flatWrite f v s)
  | .enterLoop => if s.runStatus = .running then .refused .eventNotOffered else .next (enterLoop s)

end Sys2Proof.Machine
end

