-- ==== Sys2Proof/Machine/Receiver.lean ====
section
/-! DEFINITION. The frame receiver and session state machine (spec/47_receiver.md): what one input does, ValidateCRC
and the fetch of an instruction, the timers (spec/10_state.md R43), cancellation, and one step of the whole machine. -/

namespace Sys2Proof.Machine

open Sys2Proof

/-! ## The receive buffer -/

/-- `rx[i]` (R10). -/
def rxAt (s : State) (i : Nat) : Byte := s.rxBuf.toList.getD i 0x00#8

/-- `rx[0 .. rx_len-1]`: the bytes of the current frame received so far (R22). -/
def rxFrame (s : State) : List Byte := s.rxBuf.toList.take s.rxLen

/-- `rx[rx_len] <- b; rx_len <- rx_len + 1` (R281 to R284). -/
def rxAppend (b : Byte) (s : State) : State :=
  { s with rxBuf := s.rxBuf.setIfInBounds s.rxLen b, rxLen := s.rxLen + 1 }

/-! ## Waits and timers -/

/-- A wait begins, or the quiet timer restarts: `t0 <- tick()` (R43). -/
def startWait (s : State) : State := { s with t0 := s.tick }

/-- `elapsed = wrapTICK_W(tick() − t0)` (R43). -/
def elapsed (s : State) : Nat := (((s.tick : Int) - (s.t0 : Int)) % ((2 ^ s.cfg.tickW : Nat) : Int)).toNat

/-- The tick source advances; the counter is `TICK_W` bits wide (R43, R353). -/
def advanceTick (ms : Nat) (s : State) : State := { s with tick := (s.tick + ms) % 2 ^ s.cfg.tickW }

/-! ## Aborts -/

/-- The frame is dropped: `rx_len <- 0; rx_state <- AwaitID` (R282, R285). -/
def dropFrame (s : State) : State := { s with rxLen := 0, rxState := .awaitId }

/-- The frame being read is dropped: also `rx_need <- 0` (R283, R284, R292). -/
def dropPartialFrame (s : State) : State := { s with rxLen := 0, rxNeed := 0, rxState := .awaitId }

/-- A framing abort of a frame being read or just read (R293, R285, R347): the frame is discarded; only a CRC mismatch
is counted; nothing is sent and there is no silence wait. -/
def abortFrame (k : FramingAbort) (s : State) : State :=
  match k with
  | .timeout => dropPartialFrame s
  | .crcMismatch => dropFrame (countCrcError s)

/-! ## Cancellation -/

/-- The run ends with `Completed` (R281, R292); the request is answered. -/
def completeRun (s : State) : State := { s with runStatus := .completed, cancelPending := false }

/-- A cancel accepted in a bounded wait (R292): the partial frame is discarded, no counter moves. -/
def acceptCancel (s : State) : State := completeRun (dropPartialFrame s)

/-- A cancel that the bounded wait does not accept stands until the next `AwaitID` (R292; log 7). -/
def deferCancel (s : State) : State := { s with cancelPending := true }

/-- A free value has been drawn (log 18). -/
def drawFree (s : State) : State := { s with freeCount := s.freeCount + 1 }

/-- A `Cancel` offered in a bounded wait (R292): accepted as `CANCEL_MIDFRAME` says, under `either` as a free value says
(log 7). -/
def cancelInWait (s : State) : State :=
  match s.cfg.cancelMidframe with
  | .always => acceptCancel s
  | .never => deferCancel s
  | .either =>
    if Config.acceptsCancel s.freeCount = true then acceptCancel (drawFree s) else deferCancel (drawFree s)

/-- A `Cancel` offered to the engine: always accepted in `AwaitID` (R281, R292). -/
def cancelStep (s : State) : State := if s.rxState = .awaitId then completeRun s else cancelInWait s

/-! ## Bytes -/

/-- ValidateCRC on the complete frame (R285), then the frame's instruction: fetch, decode, execute. -/
def completeFrame (s : State) : Host.Outcome State Fault Refusal :=
  if crcOk (rxFrame s) = true then
    match decode (rxFrame s) with
    | .ok (i, []) => exec i s
    | .ok (_, _ :: _) => .fault .frameNotDecoded
    | .error _ => .fault .frameNotDecoded
  else .next (abortFrame .crcMismatch s)

/-- A byte in `AwaitID` (R281). -/
def awaitIdByte (b : Byte) (s : State) : State :=
  if b = s.cfg.slaveId then
    startWait { s with rxBuf := s.rxBuf.setIfInBounds 0 b, rxLen := 1, rxState := .awaitFunction }
  else s

/-- A byte in `AwaitFunction` (R282): a byte outside the map is consumed and not examined again (D33). -/
def awaitFunctionByte (b : Byte) (s : State) : State :=
  match functionOfByte b with
  | some f =>
    startWait { s with rxBuf := s.rxBuf.setIfInBounds 1 b, rxLen := 2, rxNeed := fixedLen f,
                       rxState := .readFixedFields }
  | none => dropFrame s

/-- Whether the frame being read has a variable part (R96). -/
def readsVariablePart (s : State) : Bool :=
  match functionOfByte (rxAt s 1) with
  | some f => hasVariablePart f
  | none => false

/-- The last fixed byte has been stored (R283): the variable part follows, or the frame is complete. -/
def fixedFieldsRead (s : State) : Host.Outcome State Fault Refusal :=
  if readsVariablePart s = true then
    .next (startWait { s with rxNeed := (rxAt s 6).toNat + 2, rxState := .readVariableFields })
  else completeFrame s

/-- A byte in `ReadFixedFields` or `ReadVariableFields` (R283, R284); `done` is what the last byte of the part leads to. -/
def readingByte (b : Byte) (done : State → Host.Outcome State Fault Refusal) (s : State) :
    Host.Outcome State Fault Refusal :=
  if s.rxNeed = 0 then .fault .sequencerCorrupt
  else if s.rxLen < bufSize then
    let s1 := { rxAppend b s with rxNeed := s.rxNeed - 1 }
    if s1.rxNeed = 0 then done s1 else .next (startWait s1)
  else .fault .bufferOverrun

/-- A byte, in each of the five states (R281 to R284, R291). -/
def byteStep (b : Byte) (s : State) : Host.Outcome State Fault Refusal :=
  match s.rxState with
  | .awaitId => .next (awaitIdByte b s)
  | .awaitFunction => .next (awaitFunctionByte b s)
  | .readFixedFields => readingByte b fixedFieldsRead s
  | .readVariableFields => readingByte b completeFrame s
  | .silenceWait => .next (startWait s)

/-! ## Timeout, quiet line, polls -/

/-- `Timeout` (R282 to R284); never offered in `AwaitID` and `SilenceWait` (R39). -/
def timeoutStep (s : State) : Host.Outcome State Fault Refusal :=
  match s.rxState with
  | .awaitId => .refused .eventNotOffered
  | .awaitFunction => .next (dropFrame s)
  | .readFixedFields => .next (abortFrame .timeout s)
  | .readVariableFields => .next (abortFrame .timeout s)
  | .silenceWait => .refused .eventNotOffered

/-- `Quiet` (R291); offered in `SilenceWait` only (R39). -/
def quietStep (s : State) : Host.Outcome State Fault Refusal :=
  match s.rxState with
  | .awaitId => .refused .eventNotOffered
  | .awaitFunction => .refused .eventNotOffered
  | .readFixedFields => .refused .eventNotOffered
  | .readVariableFields => .refused .eventNotOffered
  | .silenceWait => .next { s with rxState := .awaitId }

/-- A poll that finds no byte (R43): the elapsed time is examined (R343), and `Timeout` or `Quiet` taken when it is at
least the configured interval. `AwaitID` has no timeout (R281). -/
def noDataStep (s : State) : Host.Outcome State Fault Refusal :=
  match s.rxState with
  | .awaitId => .next s
  | .awaitFunction => if elapsed s ≥ s.cfg.tNocomm.val then timeoutStep s else .next s
  | .readFixedFields => if elapsed s ≥ s.cfg.tNocomm.val then timeoutStep s else .next s
  | .readVariableFields => if elapsed s ≥ s.cfg.tNocomm.val then timeoutStep s else .next s
  | .silenceWait => if elapsed s ≥ s.cfg.tQuiet.val then quietStep s else .next s

/-! ## One step -/

/-- One event of the session agent while its run is `Running` (R39, R294). -/
def sessionEvent (e : Event) (s : State) : Host.Outcome State Fault Refusal :=
  match e with
  | .rxByte b => byteStep b s
  | .timeout => timeoutStep s
  | .quiet => quietStep s
  | .cancel => .next (cancelStep s)
  | .noData => noDataStep s

/-- One event offered to the session agent: while `run_status` is not `Running` it takes no step (R26; log 6). -/
def sessionStep (e : Event) (s : State) : Host.Outcome State Fault Refusal :=
  if s.runStatus = .running then sessionEvent e s else .next s

/-- One input. -/
def inputStep (x : Input) (s : State) : Host.Outcome State Fault Refusal :=
  match x with
  | .session e => sessionStep e s
  | .host op => hostStep op s
  | .tick ms => .next (advanceTick ms s)

/-- The cancellation check "once per outer iteration (before `AwaitID`)" finds a request that a bounded wait did not
accept (R292; log 7). -/
def cancelCheckFires (s : State) : Bool :=
  s.cancelPending && decide (s.runStatus = .running) && decide (s.rxState = .awaitId)

/-- One step of the machine: the cancellation check, else the next input; with no input the machine waits (R296). -/
def machineStep (s : State) : Host.Outcome State Fault Refusal :=
  if cancelCheckFires s = true then .next (completeRun s)
  else
    match s.inputs with
    | [] => .next s
    | x :: rest => inputStep x { s with inputs := rest }

/-! ## The host's placing of one frame (log 17) -/

/-- A buffer whose bytes from index `k` on are those of a list. -/
def fillBuffer : Buffer → Nat → List Byte → Buffer
  | buf, _, [] => buf
  | buf, k, b :: bs => fillBuffer (buf.setIfInBounds k b) (k + 1) bs

/-- The engine at the last byte of a frame: all bytes but the last are in the receive buffer, the last is the next
input, and the receiver is in the state in which it reads the last byte of such a frame. -/
def placeFrame (frame : List Byte) (s : State) : State :=
  let s1 := { s with
    rxBuf := fillBuffer s.rxBuf 0 frame.dropLast
    rxLen := frame.length - 1
    rxNeed := 1
    runStatus := .running
    inputs := .session (.rxByte (frame.getLastD 0x00#8)) :: s.inputs }
  { s1 with rxState := if readsVariablePart s1 = true then .readVariableFields else .readFixedFields }

/-- A table word's frame, with the CRC bytes that ValidateCRC asks for, placed so that the next step runs it. -/
def placeTableWord (nbits w : Nat) (s : State) : State :=
  match decode (tableFrame nbits w) with
  | .ok (i, _) => placeFrame (encode i) s
  | .error _ => s

end Sys2Proof.Machine
end

