-- ==== Sys2Proof/Machine/Step.lean ====
section
/-! DEFINITION. The step function and the host's placing of one instruction. -/

namespace Sys2Proof.Machine

/-- One step of the machine (Receiver.lean). -/
def step (s : State) : Host.Outcome State Fault Refusal := machineStep s

/-- The state with one table word's instruction placed so that the next step fetches and runs exactly it (log 17). -/
def State.withFetchWord (s : State) (nbits w : Nat) : State := placeTableWord nbits w s

end Sys2Proof.Machine
end

