-- ==== Sys2Proof/Safety.lean ====
section
/-! DEFINITION. What counts as a safe state, and the terms in which the claims speak: what a reply carries, what the
line saw, what a request leaves alone. Nothing here is used by the machine. -/

namespace Sys2Proof.Machine

open Sys2Proof

/-! ## The invariant -/

/-- The store is in canonical form and nothing in it lies at or beyond its bank's capacity (R61, R396). -/
def storeOk (s : State) : Bool :=
  s.mem.wf && bankBelow s.cfg.capCoils s.mem.coils && bankBelow s.cfg.capDI s.mem.discreteInputs
    && bankBelow s.cfg.capIR s.mem.inputRegisters && bankBelow s.cfg.capHR s.mem.holdingRegisters

/-- The sequencing registers agree with the frame in the receive buffer (R22, R24, R25, R281 to R284, R291): in
`AwaitID` and `SilenceWait` both are 0, in the other states `rx[0]` is the slave identity, and in the two reading
states `rx_need` is at least 1 and `rx_len + rx_need` is the length up to which the current part goes. -/
def sequencerOk (s : State) : Bool :=
  match s.rxState with
  | .awaitId => decide (s.rxLen = 0) && decide (s.rxNeed = 0)
  | .awaitFunction => decide (s.rxLen = 1) && decide (s.rxNeed = 0) && decide (rxAt s 0 = s.cfg.slaveId)
  | .readFixedFields =>
    decide (rxAt s 0 = s.cfg.slaveId) && decide (2 ≤ s.rxLen) && decide (1 ≤ s.rxNeed) &&
      match functionOfByte (rxAt s 1) with
      | some f => decide (s.rxLen + s.rxNeed = 2 + fixedLen f)
      | none => false
  | .readVariableFields =>
    decide (rxAt s 0 = s.cfg.slaveId) && decide (7 ≤ s.rxLen) && decide (1 ≤ s.rxNeed) && readsVariablePart s
      && decide (s.rxLen + s.rxNeed = 9 + (rxAt s 6).toNat)
  | .silenceWait => decide (s.rxLen = 0) && decide (s.rxNeed = 0) && s.cfg.silenceWaitEn

/-- A run that has ended rests in `AwaitID` (R290, R292, R296). -/
def runStatusOk (s : State) : Bool := decide (s.runStatus = .running) || decide (s.rxState = .awaitId)

/-- The tick and the recorded start of a wait are `TICK_W` bits wide (R43). -/
def timersOk (s : State) : Bool := decide (s.tick < 2 ^ s.cfg.tickW) && decide (s.t0 < 2 ^ s.cfg.tickW)

/-- The invariant of the machine. -/
abbrev Inv (s : State) : Prop :=
  storeOk s = true ∧ sequencerOk s = true ∧ runStatusOk s = true ∧ timersOk s = true

/-! ## What a reply carries -/

/-- `data` is the packing of the bits `bit 0 .. bit (n-1)` (R70, R140): `ceil(n/8)` bytes, bit `i mod 8` of byte
`i div 8` is bit `i`, the unused high bits of the last byte are zero. -/
def PackedBits (data : List Byte) (n : Nat) (bit : Nat → Bool) : Prop :=
  data.length = (n + 7) / 8 ∧
    ∀ i, i < 8 * data.length → (data.getD (i / 8) 0x00#8).getLsbD (i % 8) = (decide (i < n) && bit i)

/-- `data` is the registers `reg 0 .. reg (n-1)`, high byte first (R68, R142). -/
def PackedRegisters (data : List Byte) (n : Nat) (reg : Nat → Word) : Prop :=
  data.length = 2 * n ∧
    ∀ i, i < n → data.getD (2 * i) 0x00#8 = hi8 (reg i) ∧ data.getD (2 * i + 1) 0x00#8 = lo8 (reg i)

/-- A response frame: header, payload and CRC (R98, R162). -/
def replyFrame (id fc : Byte) (payload : List Byte) : List Byte := appendCrc ([id, fc] ++ payload)

/-- The exception frame (R100, R160). -/
def exceptionFrame (id fc code : Byte) : List Byte := appendCrc [id, fc ||| 0x80#8, code]

/-! ## What the line saw and where the receiver rests -/

/-- The receiver is back at the top of the loop after a transaction whose frame, if any, left (R297 step 6): a silence
wait begins where one is configured. -/
def Rests (s t : State) : Prop :=
  t.runStatus = s.runStatus ∧
    (if s.cfg.silenceWaitEn = true then t.rxState = .silenceWait ∧ t.t0 = s.tick
     else t.rxState = .awaitId ∧ t.t0 = s.t0)

/-- The frame was handed to `put_bytes` (R40, R289, R290): where it answers ok the whole frame is on the line and the
receiver rests; where it fails after some bytes, those are on the line and the run has ended. -/
def Delivered (frame : List Byte) (s t : State) : Prop :=
  t.rxLen = 0 ∧
    match s.txAnswers with
    | [] => t.line = s.line ++ frame ∧ t.txAnswers = [] ∧ Rests s t
    | .ok :: rest => t.line = s.line ++ frame ∧ t.txAnswers = rest ∧ Rests s t
    | .fail written :: rest =>
      t.line = s.line ++ frame.take written ∧ t.txAnswers = rest ∧ t.runStatus = .failed ∧ t.rxState = .awaitId
        ∧ t.t0 = s.t0

/-- Nothing was transmitted, and the receiver rests. -/
def Silent (s t : State) : Prop := t.rxLen = 0 ∧ t.line = s.line ∧ t.txAnswers = s.txAnswers ∧ Rests s t

/-- The transmit gate seen from outside (R289): in listen-only mode nothing leaves. -/
def Answered (frame : List Byte) (s t : State) : Prop :=
  if s.listenOnly = true then Silent s t else Delivered frame s t

/-! ## What a request leaves alone -/

/-- Every unit of every bank reads as before. -/
def SameUnits (s t : State) : Prop := ∀ (b : BankId) (a : Nat), unitAt t b a = unitAt s b a

/-- Every unit of every bank reads as before, but for the `n` units of bank `b` from offset `a`. -/
def SameUnitsBut (b : BankId) (a n : Nat) (s t : State) : Prop :=
  ∀ (b' : BankId) (a' : Nat), (b' = b → a' < a ∨ a + n ≤ a') → unitAt t b' a' = unitAt s b' a'

/-- The six counters hold these values. -/
def CountersAre (t : State) (message event crcError diagnostic exceptionError noResponse : Word) : Prop :=
  t.messageCount = message ∧ t.eventCount = event ∧ t.crcErrorCount = crcError ∧ t.diagnosticRegister = diagnostic
    ∧ t.exceptionErrorCount = exceptionError ∧ t.noResponseCount = noResponse

/-- What no transaction touches: the configuration, the receive buffer, `rx_need`, the tick, the inputs still to come,
a pending cancel, and what the host has read. -/
def SameSurroundings (s t : State) : Prop :=
  t.cfg = s.cfg ∧ t.rxBuf = s.rxBuf ∧ t.rxNeed = s.rxNeed ∧ t.tick = s.tick ∧ t.inputs = s.inputs
    ∧ t.cancelPending = s.cancelPending ∧ t.hostReads = s.hostReads

/-- NoResponseCount after the pre-dispatch counting (R286). -/
def noResponseAfter (s : State) : Word := if s.listenOnly = true then s.noResponseCount + 1 else s.noResponseCount

/-- A request that was answered with a success and wrote no counter of its own (R286, R288). -/
def CountedSuccess (s t : State) : Prop :=
  CountersAre t (s.messageCount + 1) (s.eventCount + 1) s.crcErrorCount s.diagnosticRegister s.exceptionErrorCount
    (noResponseAfter s)

/-- A request that took a wire exception (R286, R288, R344). -/
def CountedException (s t : State) : Prop :=
  CountersAre t (s.messageCount + 1) s.eventCount s.crcErrorCount s.diagnosticRegister (s.exceptionErrorCount + 1)
    (noResponseAfter s)

/-- A request that was counted and nothing more: dropped (R287) or without a reply (R224). -/
def CountedOnly (s t : State) : Prop :=
  CountersAre t (s.messageCount + 1) s.eventCount s.crcErrorCount s.diagnosticRegister s.exceptionErrorCount
    (noResponseAfter s)

/-- The request took a wire exception and left everything else alone (R344, R345). -/
def TookException (id fc code : Byte) (s t : State) : Prop :=
  Answered (exceptionFrame id fc code) s t ∧ SameUnits s t ∧ CountedException s t ∧ t.listenOnly = s.listenOnly
    ∧ SameSurroundings s t

/-- The request answered with a payload and left everything but the counters alone. -/
def AnsweredOnly (id fc : Byte) (payload : List Byte) (s t : State) : Prop :=
  Answered (replyFrame id fc payload) s t ∧ SameUnits s t ∧ CountedSuccess s t ∧ t.listenOnly = s.listenOnly
    ∧ SameSurroundings s t

end Sys2Proof.Machine
end

