-- ==== Sys2Proof/Certificates/Slice0/Obligations.lean ====
section
/-! DEFINITION. The statements for the provers (OBLIGATIONS.json lists them). Each says which rules of the spec it
formalises; where a clause rests on a decision of spec/92_eei_decisions.md or on a log entry, the docstring says so. -/

open Sys2Proof Sys2Proof.Machine

/-! ## The CRC generator and the frame codec -/

/-- R137: the document's check value, and the two CRCs it gives the end-to-end example. -/
def Obligations.CrcCheckValue : Prop :=
  crc16 [0x01#8, 0x03#8, 0x00#8, 0x00#8, 0x00#8, 0x01#8] = 0x0A84#16
    ∧ lo8 (crc16 [0x01#8, 0x03#8, 0x00#8, 0x00#8, 0x00#8, 0x01#8]) = 0x84#8
    ∧ hi8 (crc16 [0x01#8, 0x03#8, 0x00#8, 0x00#8, 0x00#8, 0x01#8]) = 0x0A#8
    ∧ crcBytes (crc16 [0x01#8, 0x03#8, 0x00#8, 0x00#8, 0x00#8, 0x02#8]) = [0xC4#8, 0x0B#8]
    ∧ crcBytes (crc16 [0x01#8, 0x03#8, 0x04#8, 0x12#8, 0x34#8, 0x56#8, 0x78#8]) = [0x81#8, 0x07#8]

/-- R133: the check on receive, byte by byte. -/
def Obligations.ReceiveCheckComparesTrailingBytes : Prop :=
  ∀ frame : List Byte, 4 ≤ frame.length →
    (crcOk frame = true ↔
      frame.getD (frame.length - 2) 0x00#8 = lo8 (crc16 (frame.take (frame.length - 2)))
        ∧ frame.getD (frame.length - 1) 0x00#8 = hi8 (crc16 (frame.take (frame.length - 2))))

/-- R134 (derived in the spec): the generator over a whole frame gives zero exactly when the frame passes. -/
def Obligations.CrcResidueZeroExactlyWhenFramePasses : Prop :=
  ∀ frame : List Byte, 2 ≤ frame.length → (crc16 frame = 0x0000#16 ↔ crcOk frame = true)

/-- R135 (derived in the spec): the printed table is what the eight steps give, and the table-driven loop body is the
bit loop's. -/
def Obligations.CrcTableFormEqualsBitLoop : Prop :=
  crcTable.length = 256
    ∧ (∀ i : Nat, i < 256 → crcTable.getD i 0x0000#16 = crcShift8 (BitVec.ofNat 16 i))
    ∧ ∀ (c : Word) (b : Byte), crcTableUpdate c b = crcUpdate c b

/-- R160 and R161: the exception frame, its five bytes, and the code of each error kind a handler raises. -/
def Obligations.ExceptionFrameIsFiveBytes : Prop :=
  ∀ (h : Header) (k : WireException),
    buildException h k
        = [h.id, functionByte h.function ||| 0x80#8, excCode k]
          ++ [lo8 (crc16 [h.id, functionByte h.function ||| 0x80#8, excCode k]),
              hi8 (crc16 [h.id, functionByte h.function ||| 0x80#8, excCode k])]
      ∧ (buildException h k).length = 5
      ∧ excCode .unsupportedFunction = 0x01#8 ∧ excCode .addressOutOfRange = 0x02#8
      ∧ excCode .invalidParameter = 0x03#8 ∧ (functionByte h.function).getLsbD 7 = false

/-! ## The bank operations -/

/-- R140: what GetBits answers, bit by bit, and exactly when it fails. -/
def Obligations.GetBitsPacksLsbFirst : Prop :=
  ∀ (bank : Bank 1) (cap address length : Nat),
    (cap < address + length → getBits bank cap address length = .error .addressOutOfRange)
      ∧ (address + length ≤ cap → ∃ data, getBits bank cap address length = .ok data
          ∧ PackedBits data length fun i => (bankRead bank (address + i)).getLsbD 0)

/-- SetBits (R141) writes exactly the addressed bits, from any canonical bank, and exactly when it fails. The canonical
form is the model's representation of a bank (log 14, DEDUCED), which R141 does not speak of. -/
def Obligations.SetBitsWritesOnlyTheAddressedBits : Prop :=
  ∀ (bank : Bank 1) (cap address length : Nat) (data : List Byte), bankWf bank = true →
    (length + 7) / 8 ≤ data.length →
    (cap < address + length → setBits bank cap address length data = .error .addressOutOfRange)
      ∧ (address + length ≤ cap → ∃ bank', setBits bank cap address length data = .ok bank'
          ∧ (∀ i, i < length →
              (bankRead bank' (address + i)).getLsbD 0 = (data.getD (i / 8) 0x00#8).getLsbD (i % 8))
          ∧ (∀ a, a < address ∨ address + length ≤ a → bankRead bank' a = bankRead bank a)
          ∧ bankWf bank' = true)

/-- R142: what GetRegisters answers, high byte first, and exactly when it fails. -/
def Obligations.GetRegistersSerializesBigEndian : Prop :=
  ∀ (bank : Bank 16) (cap address length : Nat),
    (cap < address + length → getRegisters bank cap address length = .error .addressOutOfRange)
      ∧ (address + length ≤ cap → ∃ data, getRegisters bank cap address length = .ok data
          ∧ PackedRegisters data length fun i => bankRead bank (address + i))

/-- SetRegisters (R143) writes exactly the addressed registers, from any canonical bank, and exactly when it fails. The
canonical form is the model's representation of a bank (log 14, DEDUCED), which R143 does not speak of. -/
def Obligations.SetRegistersWritesOnlyTheAddressedRegisters : Prop :=
  ∀ (bank : Bank 16) (cap address length : Nat) (data : List Byte), bankWf bank = true →
    2 * length ≤ data.length →
    (cap < address + length → setRegisters bank cap address length data = .error .addressOutOfRange)
      ∧ (address + length ≤ cap → ∃ bank', setRegisters bank cap address length data = .ok bank'
          ∧ (∀ i, i < length →
              bankRead bank' (address + i)
                = be16 (data.getD (2 * i) 0x00#8) (data.getD (2 * i + 1) 0x00#8))
          ∧ (∀ a, a < address ∨ address + length ≤ a → bankRead bank' a = bankRead bank a)
          ∧ bankWf bank' = true)

/-- E3 and E4 of 95_test_vectors.md (R141, R143): a unit written is the unit read back. -/
def Obligations.WrittenUnitsReadBack : Prop :=
  (∀ (bank bank' : Bank 1) (cap a : Nat) (v : Bool), bankWf bank = true →
      setBits bank cap a 1 [if v = true then 0x01#8 else 0x00#8] = .ok bank' →
      getBits bank' cap a 1 = .ok [if v = true then 0x01#8 else 0x00#8])
    ∧ ∀ (bank bank' : Bank 16) (cap a : Nat) (v : Word), bankWf bank = true →
        setRegisters bank cap a 1 [hi8 v, lo8 v] = .ok bank' → getRegisters bank' cap a 1 = .ok [hi8 v, lo8 v]

/-! ## The flat address layer and the host agent -/

/-- R63: the four ranges of flat addresses and their banks and offsets, and the offsets they reach. -/
def Obligations.FlatRangesMapToBanks : Prop :=
  (∀ f : Int, 1 ≤ f → f ≤ 9999 → flatRange f = some (.bits .coils, (f - 1).toNat))
    ∧ (∀ f : Int, 10001 ≤ f → f ≤ 19999 → flatRange f = some (.bits .discreteInputs, (f - 10001).toNat))
    ∧ (∀ f : Int, 30001 ≤ f → f ≤ 39999 → flatRange f = some (.regs .inputRegisters, (f - 30001).toNat))
    ∧ (∀ f : Int, 40001 ≤ f → f ≤ 49999 → flatRange f = some (.regs .holdingRegisters, (f - 40001).toNat))
    ∧ ∀ (f : Int) (b : BankId) (o : Nat), flatRange f = some (b, o) → o ≤ 9998

/-- R64: every flat address outside the four ranges reads zero and ignores a write. -/
def Obligations.FlatGapsAreNoOperation : Prop :=
  ∀ (s : State) (f : Int) (v : Word),
    (f < 1 ∨ f = 10000 ∨ (20000 ≤ f ∧ f ≤ 30000) ∨ f = 40000 ∨ 50000 ≤ f) →
    flatRead s f = 0x0000#16 ∧ flatWrite f v s = s

/-- FlatRead through a step (R145; D21 for the capacity check and the value of a bit): the value returned, and nothing
else changes. R41: the host port reaches the banks alone. -/
def Obligations.HostFlatReadReturnsTheUnit : Prop :=
  ∀ (s : State) (f : Int) (rest : List Input), cancelCheckFires s = false →
    s.inputs = .host (.flatRead f) :: rest →
    step s = .next { s with
      inputs := rest
      hostReads := s.hostReads ++ [match flatRange f with
        | some (b, o) => if o < bankCap s.cfg b then unitAt s b o else 0x0000#16
        | none => 0x0000#16] }

/-- FlatWrite through a step (R146; D21): at most one unit of one bank changes, a bit becomes 1 for any non-zero value,
and nothing outside the store changes. -/
def Obligations.HostFlatWriteChangesOneUnit : Prop :=
  ∀ (s : State) (f : Int) (v : Word) (rest : List Input), cancelCheckFires s = false → s.mem.wf = true →
    s.inputs = .host (.flatWrite f v) :: rest →
    ∃ t, step s = .next t ∧ t = { s with inputs := rest, mem := t.mem }
      ∧ match flatRange f with
        | some (b, o) =>
          if o < bankCap s.cfg b then
            SameUnitsBut b o 1 s t
              ∧ unitAt t b o = (match b with
                  | .bits _ => if v = 0x0000#16 then 0x0000#16 else 0x0001#16
                  | .regs _ => v)
          else SameUnits s t
        | none => SameUnits s t

/-! ## Encoding -/

/-- R95: the receiver's fixed-length table, for every function-code byte. -/
def Obligations.FixedLengthTable : Prop :=
  ∀ b : Byte, (functionOfByte b).map fixedLen =
    if b ∈ [0x01#8, 0x02#8, 0x03#8, 0x04#8, 0x05#8, 0x06#8, 0x08#8] then some 6
    else if b ∈ [0x0B#8, 0x0C#8, 0x11#8] then some 2
    else if b ∈ [0x0F#8, 0x10#8] then some 5
    else none

/-- R92, R94, R97: decoding an encoded well-formed instruction gives it back and leaves what follows the frame. -/
def Obligations.DecodeOfEncodeIsTheInstruction : Prop :=
  ∀ (i : Instr) (rest : List Byte), i.wf = true → decode (encode i ++ rest) = .ok (i, rest)

/-- The other direction: what decodes from a whole frame is well formed, and re-encodes to the frame's body; with a good
CRC, to the frame itself. No two frames with a good CRC decode to one instruction. -/
def Obligations.EncodeOfDecodeIsTheFrame : Prop :=
  ∀ (frame : List Byte) (i : Instr), decode frame = .ok (i, []) →
    i.wf = true ∧ encodeBody i = frame.take (frame.length - 2) ∧ (crcOk frame = true → encode i = frame)

/-- R92, R94, R97 on words written out byte by byte, one or more of each format. All but the third are from the spec's
worked examples; the third is in none and carries zeros where its CRC would stand, which the decoder does not look at
(log 16, DESIGN CHOICE). -/
def Obligations.WrittenFramesDecode : Prop :=
  decode [0x01#8, 0x01#8, 0x00#8, 0x13#8, 0x00#8, 0x0A#8, 0x4D#8, 0xC8#8] = .ok (.rdcoil 0x01#8 0x0013#16 0x000A#16, [])
    ∧ decode [0x01#8, 0x05#8, 0x00#8, 0x13#8, 0xFF#8, 0x00#8, 0x7D#8, 0xFF#8]
        = .ok (.wrcoil 0x01#8 0x0013#16 0xFF00#16, [])
    ∧ decode [0x01#8, 0x08#8, 0x00#8, 0x0F#8, 0x12#8, 0x34#8, 0x00#8, 0x00#8] = .ok (.diagNoresp15 0x01#8 0x1234#16, [])
    ∧ decode [0x01#8, 0x08#8, 0x01#8, 0x00#8, 0x00#8, 0x00#8, 0xE1#8, 0xF7#8]
        = .ok (.diagOther 0x01#8 0x0100#16 0x0000#16, [])
    ∧ decode [0x01#8, 0x0C#8, 0x00#8, 0x25#8] = .ok (.evlog 0x01#8, [])
    ∧ decode [0x01#8, 0x10#8, 0x00#8, 0x01#8, 0x00#8, 0x02#8, 0x04#8, 0x00#8, 0x0A#8, 0x01#8, 0x02#8, 0x92#8, 0x30#8]
        = .ok (.wrhrs 0x01#8 0x0001#16 0x0002#16 0x04#8 [0x00#8, 0x0A#8, 0x01#8, 0x02#8], [])

/-- R99 (D2): no byte sequence whose function byte is none of the twelve decodes, and every other long enough one does. -/
def Obligations.OnlyTheTwelveFunctionsDecode : Prop :=
  ∀ (id fc : Byte) (rest : List Byte),
    (fc ∉ [0x01#8, 0x02#8, 0x03#8, 0x04#8, 0x05#8, 0x06#8, 0x08#8, 0x0B#8, 0x0C#8, 0x0F#8, 0x10#8, 0x11#8] →
        decode (id :: fc :: rest) = .error .unsupportedFunction)
      ∧ (fc ∈ [0x01#8, 0x02#8, 0x03#8, 0x04#8, 0x05#8, 0x06#8, 0x08#8, 0x0B#8, 0x0C#8, 0x0F#8, 0x10#8, 0x11#8] →
          262 ≤ rest.length → ∃ i tail, decode (id :: fc :: rest) = .ok (i, tail) ∧ i.wf = true)

/-! ## The receiver -/

/-- R281: a byte and a cancel in `AwaitID`. `t0` is the timer refinement's (R43), left open here. -/
def Obligations.AwaitIdTakesOnlyTheSlaveIdentity : Prop :=
  ∀ (s : State) (rest : List Input), s.runStatus = .running → s.rxState = .awaitId → s.cancelPending = false →
    (∀ b, s.inputs = .session (.rxByte b) :: rest → b = s.cfg.slaveId →
        ∃ t0', step s = .next { s with
          inputs := rest, rxBuf := s.rxBuf.setIfInBounds 0 b, rxLen := 1, rxState := .awaitFunction, t0 := t0' })
      ∧ (∀ b, s.inputs = .session (.rxByte b) :: rest → b ≠ s.cfg.slaveId → step s = .next { s with inputs := rest })
      ∧ (s.inputs = .session .cancel :: rest → step s = .next { s with inputs := rest, runStatus := .completed })
      ∧ (s.inputs = .session .timeout :: rest → step s = .refused .eventNotOffered)

/-- R282 (D2, D33): a supported function code starts the fixed fields. `t0` is left open (R43). -/
def Obligations.SupportedFunctionCodeStartsFixedFields : Prop :=
  ∀ (s : State) (b : Byte) (rest : List Input) (f : FunctionCode), s.runStatus = .running →
    s.rxState = .awaitFunction → s.inputs = .session (.rxByte b) :: rest → b = functionByte f →
    ∃ t0', step s = .next { s with
      inputs := rest, rxBuf := s.rxBuf.setIfInBounds 1 b, rxLen := 2, rxNeed := fixedLen f, rxState := .readFixedFields,
      t0 := t0' }

/-- R283, R284 (D5): a byte that does not complete its part is stored and counted down; the last fixed byte of
functions 15 and 16 asks for byte-count + 2 more. -/
def Obligations.ReadingStatesStoreEachByte : Prop :=
  ∀ (s : State) (b : Byte) (rest : List Input), s.runStatus = .running → s.rxLen < bufSize →
    s.inputs = .session (.rxByte b) :: rest →
    (1 < s.rxNeed → s.rxState = .readFixedFields ∨ s.rxState = .readVariableFields →
        ∃ t0', step s = .next { s with
          inputs := rest, rxBuf := s.rxBuf.setIfInBounds s.rxLen b, rxLen := s.rxLen + 1, rxNeed := s.rxNeed - 1,
          t0 := t0' })
      ∧ (s.rxNeed = 1 → s.rxState = .readFixedFields → s.rxLen = 6 → rxAt s 1 = 0x0F#8 ∨ rxAt s 1 = 0x10#8 →
          ∃ t0', step s = .next { s with
            inputs := rest, rxBuf := s.rxBuf.setIfInBounds s.rxLen b, rxLen := s.rxLen + 1, rxNeed := b.toNat + 2,
            rxState := .readVariableFields, t0 := t0' })

/-- R285, and a step runs the decoded instruction: on the last byte of a frame the step is, with a good CRC, exactly
`exec` of the instruction the frame decodes to, in the state in which the byte has been stored; with a bad CRC only
CRCErrorCount and the sequencing registers change. -/
def Obligations.CompleteFrameIsCheckedThenRun : Prop :=
  ∀ (s : State) (b : Byte) (rest : List Input), s.runStatus = .running → s.rxNeed = 1 → 2 ≤ s.rxLen →
    s.rxLen < bufSize → s.inputs = .session (.rxByte b) :: rest →
    (s.rxState = .readFixedFields ∧ rxAt s 1 ≠ 0x0F#8 ∧ rxAt s 1 ≠ 0x10#8) ∨ s.rxState = .readVariableFields →
    (crcOk (rxFrame s ++ [b]) = true → ∀ i, decode (rxFrame s ++ [b]) = .ok (i, []) →
        step s = exec i { s with
          inputs := rest, rxBuf := s.rxBuf.setIfInBounds s.rxLen b, rxLen := s.rxLen + 1, rxNeed := 0 })
      ∧ (crcOk (rxFrame s ++ [b]) = false →
          step s = .next { s with
            inputs := rest, rxBuf := s.rxBuf.setIfInBounds s.rxLen b, rxLen := 0, rxNeed := 0, rxState := .awaitId,
            crcErrorCount := s.crcErrorCount + 1 })

/-- R280 to R285 together: the frame of a well-formed instruction addressed to this slave, delivered byte by byte to an
idle engine, runs that instruction once, on the engine's own registers and banks. -/
def Obligations.DeliveredFrameRunsItsInstruction : Prop :=
  ∀ (i : Instr) (s : State) (rest : List Input), i.wf = true → instrId i = s.cfg.slaveId → s.runStatus = .running →
    s.rxState = .awaitId → s.rxNeed = 0 → s.cancelPending = false →
    s.inputs = (encode i).map (fun b => .session (.rxByte b)) ++ rest →
    ∃ s' : State, Host.Core.run Sys2Proof.core (encode i).length s = exec i s'
      ∧ rxFrame s' = encode i
      ∧ s' = { s with inputs := rest, rxBuf := s'.rxBuf, rxState := s'.rxState, rxLen := s'.rxLen, t0 := s'.t0 }

/-- An abort changes nothing but the sequencing registers (R293): a Timeout in each of the three states, and a rejected
function code. Which bytes are rejected, unregistered ones up to 0x17 included, is the spec's decision D2 (R99, R282;
log 22); what `rx_need` becomes is the transitions' of R282 to R284. -/
def Obligations.AbortsChangeOnlySequencingRegisters : Prop :=
  ∀ (s : State) (rest : List Input), s.runStatus = .running →
    (s.inputs = .session .timeout :: rest →
        s.rxState = .awaitFunction ∨ s.rxState = .readFixedFields ∨ s.rxState = .readVariableFields →
        ∃ need, step s = .next { s with inputs := rest, rxState := .awaitId, rxLen := 0, rxNeed := need }
          ∧ (s.rxState = .awaitFunction → need = s.rxNeed) ∧ (s.rxState ≠ .awaitFunction → need = 0))
      ∧ (∀ b, s.inputs = .session (.rxByte b) :: rest → s.rxState = .awaitFunction →
          b ∉ [0x01#8, 0x02#8, 0x03#8, 0x04#8, 0x05#8, 0x06#8, 0x08#8, 0x0B#8, 0x0C#8, 0x0F#8, 0x10#8, 0x11#8] →
          step s = .next { s with inputs := rest, rxState := .awaitId, rxLen := 0 })

/-- R291 (D6): the silence wait drains bytes and ends on a quiet line; the quiet timer restarts with each byte. -/
def Obligations.SilenceWaitDrainsUntilQuiet : Prop :=
  ∀ (s : State) (rest : List Input), s.runStatus = .running → s.rxState = .silenceWait →
    (∀ b, s.inputs = .session (.rxByte b) :: rest → step s = .next { s with inputs := rest, t0 := s.tick })
      ∧ (s.inputs = .session .quiet :: rest → step s = .next { s with inputs := rest, rxState := .awaitId })

/-- R292 (D26): a cancel in a bounded wait under each policy, and the check before `AwaitID` that takes a request no
wait accepted. Under `either` both runs are possible; which one is a free value (log 7). -/
def Obligations.CancelFollowsThePolicy : Prop :=
  ∀ (s : State) (rest : List Input), s.runStatus = .running →
    (s.rxState ≠ .awaitId → s.inputs = .session .cancel :: rest →
        let accepted := { s with inputs := rest, runStatus := .completed, cancelPending := false,
                                 rxState := .awaitId, rxLen := 0, rxNeed := 0 }
        let deferred := { s with inputs := rest, cancelPending := true }
        (s.cfg.cancelMidframe = .always → step s = .next accepted)
          ∧ (s.cfg.cancelMidframe = .never → step s = .next deferred)
          ∧ (s.cfg.cancelMidframe = .either →
              step s = .next { accepted with freeCount := s.freeCount + 1 }
                ∨ step s = .next { deferred with freeCount := s.freeCount + 1 }))
      ∧ (s.rxState = .awaitId → s.cancelPending = true →
          step s = .next { s with runStatus := .completed, cancelPending := false })

/-- R26, R296 (D29): while the run has ended the session agent takes no step, whatever it is offered, and the host's
re-entry makes it `Running` in `AwaitID` with everything else kept. -/
def Obligations.EndedRunWaitsForReentry : Prop :=
  ∀ (s : State) (rest : List Input), s.runStatus ≠ .running →
    (∀ e, s.inputs = .session e :: rest → step s = .next { s with inputs := rest })
      ∧ (s.inputs = .host .enterLoop :: rest →
          step s = .next { s with inputs := rest, runStatus := .running, rxState := .awaitId, rxLen := 0 })

/-- R43 (D4): a poll that finds no byte takes the timeout, or ends the silence wait, exactly when the elapsed time modulo
`2^TICK_W` is at least the configured interval; `AwaitID` has none (R281). -/
def Obligations.PollTimesOutWhenTheIntervalHasElapsed : Prop :=
  ∀ (s : State) (rest : List Input), s.runStatus = .running → cancelCheckFires s = false →
    s.inputs = .session .noData :: rest →
    let wait := ((s.tick : Int) - (s.t0 : Int)) % ((2 ^ s.cfg.tickW : Nat) : Int)
    (s.rxState = .awaitId → step s = .next { s with inputs := rest })
      ∧ (s.rxState = .readFixedFields ∨ s.rxState = .readVariableFields →
          step s = if (s.cfg.tNocomm.val : Int) ≤ wait
            then .next { s with inputs := rest, rxState := .awaitId, rxLen := 0, rxNeed := 0 }
            else .next { s with inputs := rest })
      ∧ (s.rxState = .awaitFunction →
          step s = if (s.cfg.tNocomm.val : Int) ≤ wait
            then .next { s with inputs := rest, rxState := .awaitId, rxLen := 0 }
            else .next { s with inputs := rest })
      ∧ (s.rxState = .silenceWait →
          step s = if (s.cfg.tQuiet.val : Int) ≤ wait
            then .next { s with inputs := rest, rxState := .awaitId }
            else .next { s with inputs := rest })

/-! ## Reset and invariants -/

/-- R44: the state after reset, for every configuration. -/
def Obligations.ResetClearsBanksCountersAndMode : Prop :=
  ∀ c : Config,
    (∀ (b : BankId) (a : Nat), unitAt (State.init c) b a = 0x0000#16)
      ∧ (State.init c).listenOnly = false
      ∧ CountersAre (State.init c) 0x0000#16 0x0000#16 0x0000#16 0x0000#16 0x0000#16 0x0000#16
      ∧ State.reset = State.init Config.standard

/-- The invariant holds after reset, for every configuration (R25, R44, R45, R396; the tick starting at 0 is the model's
choice, log 13). -/
def Obligations.ResetMeetsTheInvariant : Prop := ∀ c : Config, Inv (State.init c)

/-- Every step keeps the invariant (R22, R25, R61, R396): canonical banks with nothing stored out of bounds, sequencing
registers that agree with the frame in the buffer, an ended run resting in `AwaitID`, timers within `TICK_W` bits. -/
def Obligations.StepKeepsTheInvariant : Prop := ∀ s t : State, Inv s → step s = .next t → Inv t

/-- R11, R396: no trap stops the engine: from a state that meets the invariant no step faults, so no buffer index is ever
out of bounds and every frame with a good CRC decodes. -/
def Obligations.NoStepFaultsUnderTheInvariant : Prop := ∀ (s : State) (r : Fault), Inv s → step s ≠ .fault r

/-- R6, R77: no step changes the configuration. -/
def Obligations.NoStepChangesTheConfiguration : Prop := ∀ s t : State, step s = .next t → t.cfg = s.cfg

/-- R32 (D28): DiagnosticRegister stays 0. -/
def Obligations.DiagnosticRegisterStaysZero : Prop :=
  ∀ s t : State, s.diagnosticRegister = 0x0000#16 → step s = .next t → t.diagnosticRegister = 0x0000#16

/-- R41, R289, R293, R349: a step whose next input is not a byte changes no counter and no mode and puts nothing on the
line: the host port, the tick, a timeout, a quiet line and a cancel reach none of them. -/
def Obligations.OnlyBytesMoveCountersModeAndLine : Prop :=
  ∀ s t : State, (∀ b rest, s.inputs ≠ .session (.rxByte b) :: rest) → step s = .next t →
    CountersAre t s.messageCount s.eventCount s.crcErrorCount s.diagnosticRegister s.exceptionErrorCount
        s.noResponseCount
      ∧ t.listenOnly = s.listenOnly ∧ t.line = s.line

/-! ## What every instruction does -/

/-- R11: every instruction has a next state, from every state. -/
def Obligations.EveryInstructionCompletes : Prop := ∀ (i : Instr) (s : State), ∃ t, exec i s = .next t

/-- R60, R66: no request writes the two read-only banks; only functions 05 and 15 write coils, only 06 and 16 write
holding registers. -/
def Obligations.RequestsWriteOnlyTheirBank : Prop :=
  ∀ (i : Instr) (s t : State), exec i s = .next t →
    t.mem.discreteInputs = s.mem.discreteInputs ∧ t.mem.inputRegisters = s.mem.inputRegisters
      ∧ (instrFunction i ≠ .f05 ∧ instrFunction i ≠ .f15 → t.mem.coils = s.mem.coils)
      ∧ (instrFunction i ≠ .f06 ∧ instrFunction i ≠ .f16 → t.mem.holdingRegisters = s.mem.holdingRegisters)

/-- R28, R351: only DIAG.LISTEN sets the mode and only DIAG.RESTART clears it, in either mode. -/
def Obligations.OnlyListenAndRestartChangeTheMode : Prop :=
  ∀ (i : Instr) (s t : State), exec i s = .next t →
    t.listenOnly = match i with
      | .diagListen _ _ => true
      | .diagRestart _ _ => false
      | _ => s.listenOnly

/-- R287 (D10): in listen-only mode every request but function 08 is counted and dropped. -/
def Obligations.ListenOnlyDropsRequests : Prop :=
  ∀ (i : Instr) (s : State), s.listenOnly = true → instrFunction i ≠ .f08 →
    ∃ t, exec i s = .next t ∧ Silent s t ∧ SameUnits s t ∧ CountedOnly s t ∧ t.listenOnly = true ∧ SameSurroundings s t

/-- R289, R350: in listen-only mode nothing is transmitted, whatever the request, the restart diagnostic included. -/
def Obligations.ListenOnlyTransmitsNothing : Prop :=
  ∀ (i : Instr) (s t : State), s.listenOnly = true → exec i s = .next t → Silent s t

/-- R344: exception entry. What taking a wire exception changes, saves and transmits, for every header and kind. -/
def Obligations.ExceptionEntryCountsAndReplies : Prop :=
  ∀ (h : Header) (k : WireException) (lo : Bool) (s : State),
    let t := takeException h k lo s
    CountersAre t s.messageCount s.eventCount s.crcErrorCount s.diagnosticRegister (s.exceptionErrorCount + 1)
        s.noResponseCount
      ∧ t.listenOnly = s.listenOnly ∧ t.mem = s.mem ∧ SameSurroundings s t
      ∧ (lo = false → Delivered (exceptionFrame h.id (functionByte h.function) (excCode k)) s t)
      ∧ (lo = true → Silent s t)

/-- R290, R348 (D25): a failed transmission ends the run and undoes nothing: against the same request with an ok answer,
banks, counters and mode end alike, and the line saw a prefix of the same frame. -/
def Obligations.TransportFailureUndoesNothing : Prop :=
  ∀ (i : Instr) (s t1 t2 : State) (written : Nat) (rest : List TxAnswer),
    exec i { s with txAnswers := .fail written :: rest } = .next t1 →
    exec i { s with txAnswers := .ok :: rest } = .next t2 →
    t1.mem = t2.mem ∧ t1.listenOnly = t2.listenOnly
      ∧ CountersAre t1 t2.messageCount t2.eventCount t2.crcErrorCount t2.diagnosticRegister t2.exceptionErrorCount
          t2.noResponseCount
      ∧ ((t2.line = s.line ∧ t1 = { t2 with txAnswers := .fail written :: rest })
          ∨ ∃ frame : List Byte, frame ≠ [] ∧ t2.line = s.line ++ frame ∧ t1.line = s.line ++ frame.take written
              ∧ t1.runStatus = .failed ∧ t1.rxState = .awaitId ∧ t1.rxLen = 0)

/-! ## Read functions -/

/-- R171, R172: RDCOIL and RDDI answer in normal mode (commit: R286, R288). -/
def Obligations.ReadBitRequestsReply : Prop :=
  ∀ (id : Byte) (address count : Word) (s : State), s.listenOnly = false → count.toNat ≤ 2040 →
    (address.toNat + count.toNat ≤ s.cfg.capCoils → ∃ t data, exec (.rdcoil id address count) s = .next t
        ∧ PackedBits data count.toNat (fun i => (unitAt s (.bits .coils) (address.toNat + i)).getLsbD 0)
        ∧ AnsweredOnly id 0x01#8 (BitVec.ofNat 8 ((count.toNat + 7) / 8) :: data) s t)
      ∧ (address.toNat + count.toNat ≤ s.cfg.capDI → ∃ t data, exec (.rddi id address count) s = .next t
        ∧ PackedBits data count.toNat (fun i => (unitAt s (.bits .discreteInputs) (address.toNat + i)).getLsbD 0)
        ∧ AnsweredOnly id 0x02#8 (BitVec.ofNat 8 ((count.toNat + 7) / 8) :: data) s t)

/-- R173, R174: RDHR and RDIR answer in normal mode (commit: R286, R288). -/
def Obligations.ReadRegisterRequestsReply : Prop :=
  ∀ (id : Byte) (address count : Word) (s : State), s.listenOnly = false → count.toNat ≤ 127 →
    (address.toNat + count.toNat ≤ s.cfg.capHR → ∃ t data, exec (.rdhr id address count) s = .next t
        ∧ PackedRegisters data count.toNat (fun i => unitAt s (.regs .holdingRegisters) (address.toNat + i))
        ∧ AnsweredOnly id 0x03#8 (BitVec.ofNat 8 (count.toNat * 2) :: data) s t)
      ∧ (address.toNat + count.toNat ≤ s.cfg.capIR → ∃ t data, exec (.rdir id address count) s = .next t
        ∧ PackedRegisters data count.toNat (fun i => unitAt s (.regs .inputRegisters) (address.toNat + i))
        ∧ AnsweredOnly id 0x04#8 (BitVec.ofNat 8 (count.toNat * 2) :: data) s t)

/-- R175, R342, R343 (D18, D19): the two exceptions of the read functions and their priority. -/
def Obligations.ReadRequestsRaiseTheirExceptions : Prop :=
  ∀ (id : Byte) (address count : Word) (s : State), s.listenOnly = false →
    (2040 < count.toNat → ∃ t, exec (.rdcoil id address count) s = .next t ∧ TookException id 0x01#8 0x03#8 s t)
      ∧ (count.toNat ≤ 2040 → s.cfg.capCoils < address.toNat + count.toNat →
          ∃ t, exec (.rdcoil id address count) s = .next t ∧ TookException id 0x01#8 0x02#8 s t)
      ∧ (2040 < count.toNat → ∃ t, exec (.rddi id address count) s = .next t ∧ TookException id 0x02#8 0x03#8 s t)
      ∧ (count.toNat ≤ 2040 → s.cfg.capDI < address.toNat + count.toNat →
          ∃ t, exec (.rddi id address count) s = .next t ∧ TookException id 0x02#8 0x02#8 s t)
      ∧ (127 < count.toNat → ∃ t, exec (.rdhr id address count) s = .next t ∧ TookException id 0x03#8 0x03#8 s t)
      ∧ (count.toNat ≤ 127 → s.cfg.capHR < address.toNat + count.toNat →
          ∃ t, exec (.rdhr id address count) s = .next t ∧ TookException id 0x03#8 0x02#8 s t)
      ∧ (127 < count.toNat → ∃ t, exec (.rdir id address count) s = .next t ∧ TookException id 0x04#8 0x03#8 s t)
      ∧ (count.toNat ≤ 127 → s.cfg.capIR < address.toNat + count.toNat →
          ∃ t, exec (.rdir id address count) s = .next t ∧ TookException id 0x04#8 0x02#8 s t)

/-! ## Write functions -/

/-- R190 (D17: 0xFF00 writes a 1): WRCOIL writes one coil and echoes, in normal mode. -/
def Obligations.ForceSingleCoilWritesAndEchoes : Prop :=
  ∀ (id : Byte) (address value : Word) (s : State), s.listenOnly = false → bankWf s.mem.coils = true →
    value = 0x0000#16 ∨ value = 0xFF00#16 → address.toNat + 1 ≤ s.cfg.capCoils →
    ∃ t, exec (.wrcoil id address value) s = .next t
      ∧ Delivered (replyFrame id 0x05#8 [hi8 address, lo8 address, hi8 value, lo8 value]) s t
      ∧ unitAt t (.bits .coils) address.toNat = (if value = 0xFF00#16 then 0x0001#16 else 0x0000#16)
      ∧ SameUnitsBut (.bits .coils) address.toNat 1 s t
      ∧ CountedSuccess s t ∧ t.listenOnly = s.listenOnly ∧ SameSurroundings s t

/-- R191: WRHR writes one holding register, of any value, and echoes, in normal mode. -/
def Obligations.PresetSingleRegisterWritesAndEchoes : Prop :=
  ∀ (id : Byte) (address value : Word) (s : State), s.listenOnly = false → bankWf s.mem.holdingRegisters = true →
    address.toNat + 1 ≤ s.cfg.capHR →
    ∃ t, exec (.wrhr id address value) s = .next t
      ∧ Delivered (replyFrame id 0x06#8 [hi8 address, lo8 address, hi8 value, lo8 value]) s t
      ∧ unitAt t (.regs .holdingRegisters) address.toNat = value
      ∧ SameUnitsBut (.regs .holdingRegisters) address.toNat 1 s t
      ∧ CountedSuccess s t ∧ t.listenOnly = s.listenOnly ∧ SameSurroundings s t

/-- R192: WRCOILS writes the addressed coils and no other, and echoes address and count, in normal mode. -/
def Obligations.ForceMultipleCoilsWritesAndEchoes : Prop :=
  ∀ (id : Byte) (address count : Word) (byteCount : Byte) (data : List Byte) (s : State), s.listenOnly = false →
    bankWf s.mem.coils = true → (Instr.wrcoils id address count byteCount data).wf = true →
    byteCount.toNat = (count.toNat + 7) / 8 → address.toNat + count.toNat ≤ s.cfg.capCoils →
    ∃ t, exec (.wrcoils id address count byteCount data) s = .next t
      ∧ Delivered (replyFrame id 0x0F#8 [hi8 address, lo8 address, hi8 count, lo8 count]) s t
      ∧ (∀ i, i < count.toNat → unitAt t (.bits .coils) (address.toNat + i)
          = if (data.getD (i / 8) 0x00#8).getLsbD (i % 8) = true then 0x0001#16 else 0x0000#16)
      ∧ SameUnitsBut (.bits .coils) address.toNat count.toNat s t
      ∧ CountedSuccess s t ∧ t.listenOnly = s.listenOnly ∧ SameSurroundings s t

/-- R193: WRHRS writes the addressed registers and no other, and echoes address and count, in normal mode. -/
def Obligations.PresetMultipleRegistersWritesAndEchoes : Prop :=
  ∀ (id : Byte) (address count : Word) (byteCount : Byte) (data : List Byte) (s : State), s.listenOnly = false →
    bankWf s.mem.holdingRegisters = true → (Instr.wrhrs id address count byteCount data).wf = true →
    byteCount.toNat = count.toNat * 2 → address.toNat + count.toNat ≤ s.cfg.capHR →
    ∃ t, exec (.wrhrs id address count byteCount data) s = .next t
      ∧ Delivered (replyFrame id 0x10#8 [hi8 address, lo8 address, hi8 count, lo8 count]) s t
      ∧ (∀ i, i < count.toNat → unitAt t (.regs .holdingRegisters) (address.toNat + i)
          = be16 (data.getD (2 * i) 0x00#8) (data.getD (2 * i + 1) 0x00#8))
      ∧ SameUnitsBut (.regs .holdingRegisters) address.toNat count.toNat s t
      ∧ CountedSuccess s t ∧ t.listenOnly = s.listenOnly ∧ SameSurroundings s t

/-- R194, R342, R345 (D19): the exceptions of the write functions, value checks first, the store untouched. -/
def Obligations.WriteRequestsRaiseTheirExceptions : Prop :=
  ∀ (id : Byte) (address field : Word) (byteCount : Byte) (data : List Byte) (s : State), s.listenOnly = false →
    (field ≠ 0x0000#16 → field ≠ 0xFF00#16 →
        ∃ t, exec (.wrcoil id address field) s = .next t ∧ TookException id 0x05#8 0x03#8 s t)
      ∧ (field = 0x0000#16 ∨ field = 0xFF00#16 → s.cfg.capCoils < address.toNat + 1 →
          ∃ t, exec (.wrcoil id address field) s = .next t ∧ TookException id 0x05#8 0x02#8 s t)
      ∧ (s.cfg.capHR < address.toNat + 1 →
          ∃ t, exec (.wrhr id address field) s = .next t ∧ TookException id 0x06#8 0x02#8 s t)
      ∧ (byteCount.toNat ≠ (field.toNat + 7) / 8 →
          ∃ t, exec (.wrcoils id address field byteCount data) s = .next t ∧ TookException id 0x0F#8 0x03#8 s t)
      ∧ (byteCount.toNat = (field.toNat + 7) / 8 → s.cfg.capCoils < address.toNat + field.toNat →
          ∃ t, exec (.wrcoils id address field byteCount data) s = .next t ∧ TookException id 0x0F#8 0x02#8 s t)
      ∧ (byteCount.toNat ≠ field.toNat * 2 →
          ∃ t, exec (.wrhrs id address field byteCount data) s = .next t ∧ TookException id 0x10#8 0x03#8 s t)
      ∧ (byteCount.toNat = field.toNat * 2 → s.cfg.capHR < address.toNat + field.toNat →
          ∃ t, exec (.wrhrs id address field byteCount data) s = .next t ∧ TookException id 0x10#8 0x02#8 s t)

/-! ## Diagnostics: in both modes (R236, D11); in listen-only mode `Answered` says that nothing is transmitted -/

/-- R221: DIAG.ECHO echoes. -/
def Obligations.DiagEchoEchoes : Prop :=
  ∀ (id : Byte) (data : Word) (s : State),
    ∃ t, exec (.diagEcho id data) s = .next t
      ∧ AnsweredOnly id 0x08#8 [0x00#8, 0x00#8, hi8 data, lo8 data] s t

/-- R222, R295 (D12): DIAG.RESTART. -/
def Obligations.DiagRestartClearsMessageCountAndMode : Prop :=
  ∀ (id : Byte) (data : Word) (s : State),
    ∃ t, exec (.diagRestart id data) s = .next t
      ∧ Answered (replyFrame id 0x08#8 [0x00#8, 0x01#8, hi8 data, lo8 data]) s t
      ∧ SameUnits s t
      ∧ CountersAre t 0x0000#16 (if data = 0xFF00#16 then 0x0000#16 else s.eventCount + 1) s.crcErrorCount
          s.diagnosticRegister s.exceptionErrorCount (noResponseAfter s)
      ∧ t.listenOnly = false ∧ SameSurroundings s t

/-- R224 (D20): DIAG.LISTEN enters listen-only mode with no reply. -/
def Obligations.DiagListenEntersListenOnlySilently : Prop :=
  ∀ (id : Byte) (data : Word) (s : State),
    ∃ t, exec (.diagListen id data) s = .next t
      ∧ Silent s t ∧ SameUnits s t ∧ CountedOnly s t ∧ t.listenOnly = true ∧ SameSurroundings s t

/-- R225, R295: DIAG.CLEAR leaves all six counters 0, keeps the mode and echoes. -/
def Obligations.DiagClearZeroesAllCounters : Prop :=
  ∀ (id : Byte) (data : Word) (s : State),
    ∃ t, exec (.diagClear id data) s = .next t
      ∧ Answered (replyFrame id 0x08#8 [0x00#8, 0x0A#8, hi8 data, lo8 data]) s t
      ∧ SameUnits s t ∧ CountersAre t 0x0000#16 0x0000#16 0x0000#16 0x0000#16 0x0000#16 0x0000#16
      ∧ t.listenOnly = s.listenOnly ∧ SameSurroundings s t

/-- R223, R226 to R232, R234 (D14), R235: the eight "Return X" sub-functions answer the value after the pre-dispatch
counting of this frame (R220), whatever the data field. -/
def Obligations.DiagReturnsReportTheirRegister : Prop :=
  ∀ (id : Byte) (data : Word) (s : State),
    (∃ t, exec (.diagRdreg id data) s = .next t
        ∧ AnsweredOnly id 0x08#8 [0x00#8, 0x02#8, hi8 s.diagnosticRegister, lo8 s.diagnosticRegister] s t)
      ∧ (∃ t, exec (.diagMsg11 id data) s = .next t
        ∧ AnsweredOnly id 0x08#8 [0x00#8, 0x0B#8, hi8 (s.messageCount + 1), lo8 (s.messageCount + 1)] s t)
      ∧ (∃ t, exec (.diagCrc12 id data) s = .next t
        ∧ AnsweredOnly id 0x08#8 [0x00#8, 0x0C#8, hi8 s.crcErrorCount, lo8 s.crcErrorCount] s t)
      ∧ (∃ t, exec (.diagExc13 id data) s = .next t
        ∧ AnsweredOnly id 0x08#8 [0x00#8, 0x0D#8, hi8 s.exceptionErrorCount, lo8 s.exceptionErrorCount] s t)
      ∧ (∃ t, exec (.diagMsg14 id data) s = .next t
        ∧ AnsweredOnly id 0x08#8 [0x00#8, 0x0E#8, hi8 (s.messageCount + 1), lo8 (s.messageCount + 1)] s t)
      ∧ (∃ t, exec (.diagNoresp15 id data) s = .next t
        ∧ AnsweredOnly id 0x08#8 [0x00#8, 0x0F#8, hi8 (noResponseAfter s), lo8 (noResponseAfter s)] s t)
      ∧ (∃ t, exec (.diagExc17 id data) s = .next t
        ∧ AnsweredOnly id 0x08#8 [0x00#8, 0x11#8, hi8 s.exceptionErrorCount, lo8 s.exceptionErrorCount] s t)
      ∧ (∃ t, exec (.diagZero18 id data) s = .next t
        ∧ AnsweredOnly id 0x08#8 [0x00#8, 0x12#8, 0x00#8, 0x00#8] s t)

/-- R233: DIAG.OTHER takes the unsupported-function exception, in both modes. -/
def Obligations.DiagOtherTakesUnsupportedFunction : Prop :=
  ∀ (id : Byte) (sub data : Word) (s : State),
    ∃ t, exec (.diagOther id sub data) s = .next t ∧ TookException id 0x08#8 0x01#8 s t

/-! ## Information functions -/

/-- R260, R261, R263 (D13, D15): EVCNT and EVLOG in normal mode: EventCount without this reply, MessageCount with this
frame. -/
def Obligations.EventCounterAndLogReport : Prop :=
  ∀ (id : Byte) (s : State), s.listenOnly = false →
    (∃ t, exec (.evcnt id) s = .next t
        ∧ AnsweredOnly id 0x0B#8 [0x00#8, 0x00#8, hi8 s.eventCount, lo8 s.eventCount] s t)
      ∧ (∃ t, exec (.evlog id) s = .next t
        ∧ AnsweredOnly id 0x0C#8 [0x08#8, 0x00#8, 0x00#8, hi8 s.eventCount, lo8 s.eventCount,
            hi8 (s.messageCount + 1), lo8 (s.messageCount + 1), 0x00#8, 0x00#8] s t)

/-- R262 (D15): SLVID in normal mode reports the configured identity and run indicator 0xFF. -/
def Obligations.ReportSlaveIdReports : Prop :=
  ∀ (id : Byte) (s : State), s.listenOnly = false →
    ∃ t, exec (.slvid id) s = .next t
      ∧ AnsweredOnly id 0x11#8
          [0x08#8, s.cfg.slaveId, 0xFF#8, 0x00#8, 0x00#8, 0x00#8, 0x00#8, 0x00#8, 0x00#8] s t

/-! ## The intervals are positive -/

/-- R6: `T_NOCOMM` and `T_QUIET` are positive integers, so a poll at the tick at which its wait began takes no timeout and
ends no silence wait, in any state and under any configuration (the poll is R43's refinement, D4, log 13). -/
def Obligations.NoTimeoutBeforeTimePasses : Prop :=
  (∀ c : Config, 0 < c.tNocomm.val ∧ 0 < c.tQuiet.val)
    ∧ ∀ (s : State) (rest : List Input), cancelCheckFires s = false → s.inputs = .session .noData :: rest → s.t0 = s.tick →
        step s = .next { s with inputs := rest }
end

