-- ==== Sys2Proof/Laws/State.lean ====
section
/-! SUPPORT. One lemma per field of State per named update, so that no proof unfolds a record update. -/

namespace Sys2Proof.Machine

open Sys2Proof

variable (s : State)

/-! ## setListenOnly -/

@[simp] theorem setListenOnly_mem (v : Bool) : (setListenOnly v s).mem = s.mem := rfl
@[simp] theorem setListenOnly_rxBuf (v : Bool) : (setListenOnly v s).rxBuf = s.rxBuf := rfl
@[simp] theorem setListenOnly_txBuf (v : Bool) : (setListenOnly v s).txBuf = s.txBuf := rfl
@[simp] theorem setListenOnly_rxState (v : Bool) : (setListenOnly v s).rxState = s.rxState := rfl
@[simp] theorem setListenOnly_rxLen (v : Bool) : (setListenOnly v s).rxLen = s.rxLen := rfl
@[simp] theorem setListenOnly_rxNeed (v : Bool) : (setListenOnly v s).rxNeed = s.rxNeed := rfl
@[simp] theorem setListenOnly_runStatus (v : Bool) : (setListenOnly v s).runStatus = s.runStatus := rfl
@[simp] theorem setListenOnly_listenOnly (v : Bool) : (setListenOnly v s).listenOnly = v := rfl
@[simp] theorem setListenOnly_messageCount (v : Bool) : (setListenOnly v s).messageCount = s.messageCount := rfl
@[simp] theorem setListenOnly_eventCount (v : Bool) : (setListenOnly v s).eventCount = s.eventCount := rfl
@[simp] theorem setListenOnly_crcErrorCount (v : Bool) : (setListenOnly v s).crcErrorCount = s.crcErrorCount := rfl
@[simp] theorem setListenOnly_diagnosticRegister (v : Bool) : (setListenOnly v s).diagnosticRegister = s.diagnosticRegister := rfl
@[simp] theorem setListenOnly_exceptionErrorCount (v : Bool) : (setListenOnly v s).exceptionErrorCount = s.exceptionErrorCount := rfl
@[simp] theorem setListenOnly_noResponseCount (v : Bool) : (setListenOnly v s).noResponseCount = s.noResponseCount := rfl
@[simp] theorem setListenOnly_t0 (v : Bool) : (setListenOnly v s).t0 = s.t0 := rfl
@[simp] theorem setListenOnly_tick (v : Bool) : (setListenOnly v s).tick = s.tick := rfl
@[simp] theorem setListenOnly_cfg (v : Bool) : (setListenOnly v s).cfg = s.cfg := rfl
@[simp] theorem setListenOnly_inputs (v : Bool) : (setListenOnly v s).inputs = s.inputs := rfl
@[simp] theorem setListenOnly_txAnswers (v : Bool) : (setListenOnly v s).txAnswers = s.txAnswers := rfl
@[simp] theorem setListenOnly_cancelPending (v : Bool) : (setListenOnly v s).cancelPending = s.cancelPending := rfl
@[simp] theorem setListenOnly_line (v : Bool) : (setListenOnly v s).line = s.line := rfl
@[simp] theorem setListenOnly_hostReads (v : Bool) : (setListenOnly v s).hostReads = s.hostReads := rfl
@[simp] theorem setListenOnly_freeCount (v : Bool) : (setListenOnly v s).freeCount = s.freeCount := rfl

/-! ## countMessage -/

@[simp] theorem countMessage_mem : (countMessage s).mem = s.mem := rfl
@[simp] theorem countMessage_rxBuf : (countMessage s).rxBuf = s.rxBuf := rfl
@[simp] theorem countMessage_txBuf : (countMessage s).txBuf = s.txBuf := rfl
@[simp] theorem countMessage_rxState : (countMessage s).rxState = s.rxState := rfl
@[simp] theorem countMessage_rxLen : (countMessage s).rxLen = s.rxLen := rfl
@[simp] theorem countMessage_rxNeed : (countMessage s).rxNeed = s.rxNeed := rfl
@[simp] theorem countMessage_runStatus : (countMessage s).runStatus = s.runStatus := rfl
@[simp] theorem countMessage_listenOnly : (countMessage s).listenOnly = s.listenOnly := rfl
@[simp] theorem countMessage_messageCount : (countMessage s).messageCount = s.messageCount + 1 := rfl
@[simp] theorem countMessage_eventCount : (countMessage s).eventCount = s.eventCount := rfl
@[simp] theorem countMessage_crcErrorCount : (countMessage s).crcErrorCount = s.crcErrorCount := rfl
@[simp] theorem countMessage_diagnosticRegister : (countMessage s).diagnosticRegister = s.diagnosticRegister := rfl
@[simp] theorem countMessage_exceptionErrorCount : (countMessage s).exceptionErrorCount = s.exceptionErrorCount := rfl
@[simp] theorem countMessage_noResponseCount : (countMessage s).noResponseCount = s.noResponseCount := rfl
@[simp] theorem countMessage_t0 : (countMessage s).t0 = s.t0 := rfl
@[simp] theorem countMessage_tick : (countMessage s).tick = s.tick := rfl
@[simp] theorem countMessage_cfg : (countMessage s).cfg = s.cfg := rfl
@[simp] theorem countMessage_inputs : (countMessage s).inputs = s.inputs := rfl
@[simp] theorem countMessage_txAnswers : (countMessage s).txAnswers = s.txAnswers := rfl
@[simp] theorem countMessage_cancelPending : (countMessage s).cancelPending = s.cancelPending := rfl
@[simp] theorem countMessage_line : (countMessage s).line = s.line := rfl
@[simp] theorem countMessage_hostReads : (countMessage s).hostReads = s.hostReads := rfl
@[simp] theorem countMessage_freeCount : (countMessage s).freeCount = s.freeCount := rfl

/-! ## countNoResponse -/

@[simp] theorem countNoResponse_mem : (countNoResponse s).mem = s.mem := rfl
@[simp] theorem countNoResponse_rxBuf : (countNoResponse s).rxBuf = s.rxBuf := rfl
@[simp] theorem countNoResponse_txBuf : (countNoResponse s).txBuf = s.txBuf := rfl
@[simp] theorem countNoResponse_rxState : (countNoResponse s).rxState = s.rxState := rfl
@[simp] theorem countNoResponse_rxLen : (countNoResponse s).rxLen = s.rxLen := rfl
@[simp] theorem countNoResponse_rxNeed : (countNoResponse s).rxNeed = s.rxNeed := rfl
@[simp] theorem countNoResponse_runStatus : (countNoResponse s).runStatus = s.runStatus := rfl
@[simp] theorem countNoResponse_listenOnly : (countNoResponse s).listenOnly = s.listenOnly := rfl
@[simp] theorem countNoResponse_messageCount : (countNoResponse s).messageCount = s.messageCount := rfl
@[simp] theorem countNoResponse_eventCount : (countNoResponse s).eventCount = s.eventCount := rfl
@[simp] theorem countNoResponse_crcErrorCount : (countNoResponse s).crcErrorCount = s.crcErrorCount := rfl
@[simp] theorem countNoResponse_diagnosticRegister : (countNoResponse s).diagnosticRegister = s.diagnosticRegister := rfl
@[simp] theorem countNoResponse_exceptionErrorCount : (countNoResponse s).exceptionErrorCount = s.exceptionErrorCount := rfl
@[simp] theorem countNoResponse_noResponseCount : (countNoResponse s).noResponseCount = s.noResponseCount + 1 := rfl
@[simp] theorem countNoResponse_t0 : (countNoResponse s).t0 = s.t0 := rfl
@[simp] theorem countNoResponse_tick : (countNoResponse s).tick = s.tick := rfl
@[simp] theorem countNoResponse_cfg : (countNoResponse s).cfg = s.cfg := rfl
@[simp] theorem countNoResponse_inputs : (countNoResponse s).inputs = s.inputs := rfl
@[simp] theorem countNoResponse_txAnswers : (countNoResponse s).txAnswers = s.txAnswers := rfl
@[simp] theorem countNoResponse_cancelPending : (countNoResponse s).cancelPending = s.cancelPending := rfl
@[simp] theorem countNoResponse_line : (countNoResponse s).line = s.line := rfl
@[simp] theorem countNoResponse_hostReads : (countNoResponse s).hostReads = s.hostReads := rfl
@[simp] theorem countNoResponse_freeCount : (countNoResponse s).freeCount = s.freeCount := rfl

/-! ## countEvent -/

@[simp] theorem countEvent_mem : (countEvent s).mem = s.mem := rfl
@[simp] theorem countEvent_rxBuf : (countEvent s).rxBuf = s.rxBuf := rfl
@[simp] theorem countEvent_txBuf : (countEvent s).txBuf = s.txBuf := rfl
@[simp] theorem countEvent_rxState : (countEvent s).rxState = s.rxState := rfl
@[simp] theorem countEvent_rxLen : (countEvent s).rxLen = s.rxLen := rfl
@[simp] theorem countEvent_rxNeed : (countEvent s).rxNeed = s.rxNeed := rfl
@[simp] theorem countEvent_runStatus : (countEvent s).runStatus = s.runStatus := rfl
@[simp] theorem countEvent_listenOnly : (countEvent s).listenOnly = s.listenOnly := rfl
@[simp] theorem countEvent_messageCount : (countEvent s).messageCount = s.messageCount := rfl
@[simp] theorem countEvent_eventCount : (countEvent s).eventCount = s.eventCount + 1 := rfl
@[simp] theorem countEvent_crcErrorCount : (countEvent s).crcErrorCount = s.crcErrorCount := rfl
@[simp] theorem countEvent_diagnosticRegister : (countEvent s).diagnosticRegister = s.diagnosticRegister := rfl
@[simp] theorem countEvent_exceptionErrorCount : (countEvent s).exceptionErrorCount = s.exceptionErrorCount := rfl
@[simp] theorem countEvent_noResponseCount : (countEvent s).noResponseCount = s.noResponseCount := rfl
@[simp] theorem countEvent_t0 : (countEvent s).t0 = s.t0 := rfl
@[simp] theorem countEvent_tick : (countEvent s).tick = s.tick := rfl
@[simp] theorem countEvent_cfg : (countEvent s).cfg = s.cfg := rfl
@[simp] theorem countEvent_inputs : (countEvent s).inputs = s.inputs := rfl
@[simp] theorem countEvent_txAnswers : (countEvent s).txAnswers = s.txAnswers := rfl
@[simp] theorem countEvent_cancelPending : (countEvent s).cancelPending = s.cancelPending := rfl
@[simp] theorem countEvent_line : (countEvent s).line = s.line := rfl
@[simp] theorem countEvent_hostReads : (countEvent s).hostReads = s.hostReads := rfl
@[simp] theorem countEvent_freeCount : (countEvent s).freeCount = s.freeCount := rfl

/-! ## countCrcError -/

@[simp] theorem countCrcError_mem : (countCrcError s).mem = s.mem := rfl
@[simp] theorem countCrcError_rxBuf : (countCrcError s).rxBuf = s.rxBuf := rfl
@[simp] theorem countCrcError_txBuf : (countCrcError s).txBuf = s.txBuf := rfl
@[simp] theorem countCrcError_rxState : (countCrcError s).rxState = s.rxState := rfl
@[simp] theorem countCrcError_rxLen : (countCrcError s).rxLen = s.rxLen := rfl
@[simp] theorem countCrcError_rxNeed : (countCrcError s).rxNeed = s.rxNeed := rfl
@[simp] theorem countCrcError_runStatus : (countCrcError s).runStatus = s.runStatus := rfl
@[simp] theorem countCrcError_listenOnly : (countCrcError s).listenOnly = s.listenOnly := rfl
@[simp] theorem countCrcError_messageCount : (countCrcError s).messageCount = s.messageCount := rfl
@[simp] theorem countCrcError_eventCount : (countCrcError s).eventCount = s.eventCount := rfl
@[simp] theorem countCrcError_crcErrorCount : (countCrcError s).crcErrorCount = s.crcErrorCount + 1 := rfl
@[simp] theorem countCrcError_diagnosticRegister : (countCrcError s).diagnosticRegister = s.diagnosticRegister := rfl
@[simp] theorem countCrcError_exceptionErrorCount : (countCrcError s).exceptionErrorCount = s.exceptionErrorCount := rfl
@[simp] theorem countCrcError_noResponseCount : (countCrcError s).noResponseCount = s.noResponseCount := rfl
@[simp] theorem countCrcError_t0 : (countCrcError s).t0 = s.t0 := rfl
@[simp] theorem countCrcError_tick : (countCrcError s).tick = s.tick := rfl
@[simp] theorem countCrcError_cfg : (countCrcError s).cfg = s.cfg := rfl
@[simp] theorem countCrcError_inputs : (countCrcError s).inputs = s.inputs := rfl
@[simp] theorem countCrcError_txAnswers : (countCrcError s).txAnswers = s.txAnswers := rfl
@[simp] theorem countCrcError_cancelPending : (countCrcError s).cancelPending = s.cancelPending := rfl
@[simp] theorem countCrcError_line : (countCrcError s).line = s.line := rfl
@[simp] theorem countCrcError_hostReads : (countCrcError s).hostReads = s.hostReads := rfl
@[simp] theorem countCrcError_freeCount : (countCrcError s).freeCount = s.freeCount := rfl

/-! ## countException -/

@[simp] theorem countException_mem : (countException s).mem = s.mem := rfl
@[simp] theorem countException_rxBuf : (countException s).rxBuf = s.rxBuf := rfl
@[simp] theorem countException_txBuf : (countException s).txBuf = s.txBuf := rfl
@[simp] theorem countException_rxState : (countException s).rxState = s.rxState := rfl
@[simp] theorem countException_rxLen : (countException s).rxLen = s.rxLen := rfl
@[simp] theorem countException_rxNeed : (countException s).rxNeed = s.rxNeed := rfl
@[simp] theorem countException_runStatus : (countException s).runStatus = s.runStatus := rfl
@[simp] theorem countException_listenOnly : (countException s).listenOnly = s.listenOnly := rfl
@[simp] theorem countException_messageCount : (countException s).messageCount = s.messageCount := rfl
@[simp] theorem countException_eventCount : (countException s).eventCount = s.eventCount := rfl
@[simp] theorem countException_crcErrorCount : (countException s).crcErrorCount = s.crcErrorCount := rfl
@[simp] theorem countException_diagnosticRegister : (countException s).diagnosticRegister = s.diagnosticRegister := rfl
@[simp] theorem countException_exceptionErrorCount : (countException s).exceptionErrorCount = s.exceptionErrorCount + 1 := rfl
@[simp] theorem countException_noResponseCount : (countException s).noResponseCount = s.noResponseCount := rfl
@[simp] theorem countException_t0 : (countException s).t0 = s.t0 := rfl
@[simp] theorem countException_tick : (countException s).tick = s.tick := rfl
@[simp] theorem countException_cfg : (countException s).cfg = s.cfg := rfl
@[simp] theorem countException_inputs : (countException s).inputs = s.inputs := rfl
@[simp] theorem countException_txAnswers : (countException s).txAnswers = s.txAnswers := rfl
@[simp] theorem countException_cancelPending : (countException s).cancelPending = s.cancelPending := rfl
@[simp] theorem countException_line : (countException s).line = s.line := rfl
@[simp] theorem countException_hostReads : (countException s).hostReads = s.hostReads := rfl
@[simp] theorem countException_freeCount : (countException s).freeCount = s.freeCount := rfl

/-! ## clearMessageCount -/

@[simp] theorem clearMessageCount_mem : (clearMessageCount s).mem = s.mem := rfl
@[simp] theorem clearMessageCount_rxBuf : (clearMessageCount s).rxBuf = s.rxBuf := rfl
@[simp] theorem clearMessageCount_txBuf : (clearMessageCount s).txBuf = s.txBuf := rfl
@[simp] theorem clearMessageCount_rxState : (clearMessageCount s).rxState = s.rxState := rfl
@[simp] theorem clearMessageCount_rxLen : (clearMessageCount s).rxLen = s.rxLen := rfl
@[simp] theorem clearMessageCount_rxNeed : (clearMessageCount s).rxNeed = s.rxNeed := rfl
@[simp] theorem clearMessageCount_runStatus : (clearMessageCount s).runStatus = s.runStatus := rfl
@[simp] theorem clearMessageCount_listenOnly : (clearMessageCount s).listenOnly = s.listenOnly := rfl
@[simp] theorem clearMessageCount_messageCount : (clearMessageCount s).messageCount = 0x0000#16 := rfl
@[simp] theorem clearMessageCount_eventCount : (clearMessageCount s).eventCount = s.eventCount := rfl
@[simp] theorem clearMessageCount_crcErrorCount : (clearMessageCount s).crcErrorCount = s.crcErrorCount := rfl
@[simp] theorem clearMessageCount_diagnosticRegister : (clearMessageCount s).diagnosticRegister = s.diagnosticRegister := rfl
@[simp] theorem clearMessageCount_exceptionErrorCount : (clearMessageCount s).exceptionErrorCount = s.exceptionErrorCount := rfl
@[simp] theorem clearMessageCount_noResponseCount : (clearMessageCount s).noResponseCount = s.noResponseCount := rfl
@[simp] theorem clearMessageCount_t0 : (clearMessageCount s).t0 = s.t0 := rfl
@[simp] theorem clearMessageCount_tick : (clearMessageCount s).tick = s.tick := rfl
@[simp] theorem clearMessageCount_cfg : (clearMessageCount s).cfg = s.cfg := rfl
@[simp] theorem clearMessageCount_inputs : (clearMessageCount s).inputs = s.inputs := rfl
@[simp] theorem clearMessageCount_txAnswers : (clearMessageCount s).txAnswers = s.txAnswers := rfl
@[simp] theorem clearMessageCount_cancelPending : (clearMessageCount s).cancelPending = s.cancelPending := rfl
@[simp] theorem clearMessageCount_line : (clearMessageCount s).line = s.line := rfl
@[simp] theorem clearMessageCount_hostReads : (clearMessageCount s).hostReads = s.hostReads := rfl
@[simp] theorem clearMessageCount_freeCount : (clearMessageCount s).freeCount = s.freeCount := rfl

/-! ## clearEventCount -/

@[simp] theorem clearEventCount_mem : (clearEventCount s).mem = s.mem := rfl
@[simp] theorem clearEventCount_rxBuf : (clearEventCount s).rxBuf = s.rxBuf := rfl
@[simp] theorem clearEventCount_txBuf : (clearEventCount s).txBuf = s.txBuf := rfl
@[simp] theorem clearEventCount_rxState : (clearEventCount s).rxState = s.rxState := rfl
@[simp] theorem clearEventCount_rxLen : (clearEventCount s).rxLen = s.rxLen := rfl
@[simp] theorem clearEventCount_rxNeed : (clearEventCount s).rxNeed = s.rxNeed := rfl
@[simp] theorem clearEventCount_runStatus : (clearEventCount s).runStatus = s.runStatus := rfl
@[simp] theorem clearEventCount_listenOnly : (clearEventCount s).listenOnly = s.listenOnly := rfl
@[simp] theorem clearEventCount_messageCount : (clearEventCount s).messageCount = s.messageCount := rfl
@[simp] theorem clearEventCount_eventCount : (clearEventCount s).eventCount = 0x0000#16 := rfl
@[simp] theorem clearEventCount_crcErrorCount : (clearEventCount s).crcErrorCount = s.crcErrorCount := rfl
@[simp] theorem clearEventCount_diagnosticRegister : (clearEventCount s).diagnosticRegister = s.diagnosticRegister := rfl
@[simp] theorem clearEventCount_exceptionErrorCount : (clearEventCount s).exceptionErrorCount = s.exceptionErrorCount := rfl
@[simp] theorem clearEventCount_noResponseCount : (clearEventCount s).noResponseCount = s.noResponseCount := rfl
@[simp] theorem clearEventCount_t0 : (clearEventCount s).t0 = s.t0 := rfl
@[simp] theorem clearEventCount_tick : (clearEventCount s).tick = s.tick := rfl
@[simp] theorem clearEventCount_cfg : (clearEventCount s).cfg = s.cfg := rfl
@[simp] theorem clearEventCount_inputs : (clearEventCount s).inputs = s.inputs := rfl
@[simp] theorem clearEventCount_txAnswers : (clearEventCount s).txAnswers = s.txAnswers := rfl
@[simp] theorem clearEventCount_cancelPending : (clearEventCount s).cancelPending = s.cancelPending := rfl
@[simp] theorem clearEventCount_line : (clearEventCount s).line = s.line := rfl
@[simp] theorem clearEventCount_hostReads : (clearEventCount s).hostReads = s.hostReads := rfl
@[simp] theorem clearEventCount_freeCount : (clearEventCount s).freeCount = s.freeCount := rfl

/-! ## clearCounters -/

@[simp] theorem clearCounters_mem : (clearCounters s).mem = s.mem := rfl
@[simp] theorem clearCounters_rxBuf : (clearCounters s).rxBuf = s.rxBuf := rfl
@[simp] theorem clearCounters_txBuf : (clearCounters s).txBuf = s.txBuf := rfl
@[simp] theorem clearCounters_rxState : (clearCounters s).rxState = s.rxState := rfl
@[simp] theorem clearCounters_rxLen : (clearCounters s).rxLen = s.rxLen := rfl
@[simp] theorem clearCounters_rxNeed : (clearCounters s).rxNeed = s.rxNeed := rfl
@[simp] theorem clearCounters_runStatus : (clearCounters s).runStatus = s.runStatus := rfl
@[simp] theorem clearCounters_listenOnly : (clearCounters s).listenOnly = s.listenOnly := rfl
@[simp] theorem clearCounters_messageCount : (clearCounters s).messageCount = 0x0000#16 := rfl
@[simp] theorem clearCounters_eventCount : (clearCounters s).eventCount = 0x0000#16 := rfl
@[simp] theorem clearCounters_crcErrorCount : (clearCounters s).crcErrorCount = 0x0000#16 := rfl
@[simp] theorem clearCounters_diagnosticRegister : (clearCounters s).diagnosticRegister = 0x0000#16 := rfl
@[simp] theorem clearCounters_exceptionErrorCount : (clearCounters s).exceptionErrorCount = 0x0000#16 := rfl
@[simp] theorem clearCounters_noResponseCount : (clearCounters s).noResponseCount = 0x0000#16 := rfl
@[simp] theorem clearCounters_t0 : (clearCounters s).t0 = s.t0 := rfl
@[simp] theorem clearCounters_tick : (clearCounters s).tick = s.tick := rfl
@[simp] theorem clearCounters_cfg : (clearCounters s).cfg = s.cfg := rfl
@[simp] theorem clearCounters_inputs : (clearCounters s).inputs = s.inputs := rfl
@[simp] theorem clearCounters_txAnswers : (clearCounters s).txAnswers = s.txAnswers := rfl
@[simp] theorem clearCounters_cancelPending : (clearCounters s).cancelPending = s.cancelPending := rfl
@[simp] theorem clearCounters_line : (clearCounters s).line = s.line := rfl
@[simp] theorem clearCounters_hostReads : (clearCounters s).hostReads = s.hostReads := rfl
@[simp] theorem clearCounters_freeCount : (clearCounters s).freeCount = s.freeCount := rfl

/-! ## settleTxBuf -/

@[simp] theorem settleTxBuf_mem : (settleTxBuf s).mem = s.mem := rfl
@[simp] theorem settleTxBuf_rxBuf : (settleTxBuf s).rxBuf = s.rxBuf := rfl
@[simp] theorem settleTxBuf_txBuf : (settleTxBuf s).txBuf = Config.staleTxBuf s.freeCount := rfl
@[simp] theorem settleTxBuf_rxState : (settleTxBuf s).rxState = s.rxState := rfl
@[simp] theorem settleTxBuf_rxLen : (settleTxBuf s).rxLen = s.rxLen := rfl
@[simp] theorem settleTxBuf_rxNeed : (settleTxBuf s).rxNeed = s.rxNeed := rfl
@[simp] theorem settleTxBuf_runStatus : (settleTxBuf s).runStatus = s.runStatus := rfl
@[simp] theorem settleTxBuf_listenOnly : (settleTxBuf s).listenOnly = s.listenOnly := rfl
@[simp] theorem settleTxBuf_messageCount : (settleTxBuf s).messageCount = s.messageCount := rfl
@[simp] theorem settleTxBuf_eventCount : (settleTxBuf s).eventCount = s.eventCount := rfl
@[simp] theorem settleTxBuf_crcErrorCount : (settleTxBuf s).crcErrorCount = s.crcErrorCount := rfl
@[simp] theorem settleTxBuf_diagnosticRegister : (settleTxBuf s).diagnosticRegister = s.diagnosticRegister := rfl
@[simp] theorem settleTxBuf_exceptionErrorCount : (settleTxBuf s).exceptionErrorCount = s.exceptionErrorCount := rfl
@[simp] theorem settleTxBuf_noResponseCount : (settleTxBuf s).noResponseCount = s.noResponseCount := rfl
@[simp] theorem settleTxBuf_t0 : (settleTxBuf s).t0 = s.t0 := rfl
@[simp] theorem settleTxBuf_tick : (settleTxBuf s).tick = s.tick := rfl
@[simp] theorem settleTxBuf_cfg : (settleTxBuf s).cfg = s.cfg := rfl
@[simp] theorem settleTxBuf_inputs : (settleTxBuf s).inputs = s.inputs := rfl
@[simp] theorem settleTxBuf_txAnswers : (settleTxBuf s).txAnswers = s.txAnswers := rfl
@[simp] theorem settleTxBuf_cancelPending : (settleTxBuf s).cancelPending = s.cancelPending := rfl
@[simp] theorem settleTxBuf_line : (settleTxBuf s).line = s.line := rfl
@[simp] theorem settleTxBuf_hostReads : (settleTxBuf s).hostReads = s.hostReads := rfl
@[simp] theorem settleTxBuf_freeCount : (settleTxBuf s).freeCount = s.freeCount + 1 := rfl

/-! ## putOnLine -/

@[simp] theorem putOnLine_mem (bytes : List Byte) (answers : List TxAnswer) : (putOnLine bytes answers s).mem = s.mem := rfl
@[simp] theorem putOnLine_rxBuf (bytes : List Byte) (answers : List TxAnswer) : (putOnLine bytes answers s).rxBuf = s.rxBuf := rfl
@[simp] theorem putOnLine_txBuf (bytes : List Byte) (answers : List TxAnswer) : (putOnLine bytes answers s).txBuf = s.txBuf := rfl
@[simp] theorem putOnLine_rxState (bytes : List Byte) (answers : List TxAnswer) : (putOnLine bytes answers s).rxState = s.rxState := rfl
@[simp] theorem putOnLine_rxLen (bytes : List Byte) (answers : List TxAnswer) : (putOnLine bytes answers s).rxLen = s.rxLen := rfl
@[simp] theorem putOnLine_rxNeed (bytes : List Byte) (answers : List TxAnswer) : (putOnLine bytes answers s).rxNeed = s.rxNeed := rfl
@[simp] theorem putOnLine_runStatus (bytes : List Byte) (answers : List TxAnswer) : (putOnLine bytes answers s).runStatus = s.runStatus := rfl
@[simp] theorem putOnLine_listenOnly (bytes : List Byte) (answers : List TxAnswer) : (putOnLine bytes answers s).listenOnly = s.listenOnly := rfl
@[simp] theorem putOnLine_messageCount (bytes : List Byte) (answers : List TxAnswer) : (putOnLine bytes answers s).messageCount = s.messageCount := rfl
@[simp] theorem putOnLine_eventCount (bytes : List Byte) (answers : List TxAnswer) : (putOnLine bytes answers s).eventCount = s.eventCount := rfl
@[simp] theorem putOnLine_crcErrorCount (bytes : List Byte) (answers : List TxAnswer) : (putOnLine bytes answers s).crcErrorCount = s.crcErrorCount := rfl
@[simp] theorem putOnLine_diagnosticRegister (bytes : List Byte) (answers : List TxAnswer) : (putOnLine bytes answers s).diagnosticRegister = s.diagnosticRegister := rfl
@[simp] theorem putOnLine_exceptionErrorCount (bytes : List Byte) (answers : List TxAnswer) : (putOnLine bytes answers s).exceptionErrorCount = s.exceptionErrorCount := rfl
@[simp] theorem putOnLine_noResponseCount (bytes : List Byte) (answers : List TxAnswer) : (putOnLine bytes answers s).noResponseCount = s.noResponseCount := rfl
@[simp] theorem putOnLine_t0 (bytes : List Byte) (answers : List TxAnswer) : (putOnLine bytes answers s).t0 = s.t0 := rfl
@[simp] theorem putOnLine_tick (bytes : List Byte) (answers : List TxAnswer) : (putOnLine bytes answers s).tick = s.tick := rfl
@[simp] theorem putOnLine_cfg (bytes : List Byte) (answers : List TxAnswer) : (putOnLine bytes answers s).cfg = s.cfg := rfl
@[simp] theorem putOnLine_inputs (bytes : List Byte) (answers : List TxAnswer) : (putOnLine bytes answers s).inputs = s.inputs := rfl
@[simp] theorem putOnLine_txAnswers (bytes : List Byte) (answers : List TxAnswer) : (putOnLine bytes answers s).txAnswers = answers := rfl
@[simp] theorem putOnLine_cancelPending (bytes : List Byte) (answers : List TxAnswer) : (putOnLine bytes answers s).cancelPending = s.cancelPending := rfl
@[simp] theorem putOnLine_line (bytes : List Byte) (answers : List TxAnswer) : (putOnLine bytes answers s).line = s.line ++ bytes := rfl
@[simp] theorem putOnLine_hostReads (bytes : List Byte) (answers : List TxAnswer) : (putOnLine bytes answers s).hostReads = s.hostReads := rfl
@[simp] theorem putOnLine_freeCount (bytes : List Byte) (answers : List TxAnswer) : (putOnLine bytes answers s).freeCount = s.freeCount := rfl

/-! ## endTransaction -/

@[simp] theorem endTransaction_mem : (endTransaction s).mem = s.mem := rfl
@[simp] theorem endTransaction_rxBuf : (endTransaction s).rxBuf = s.rxBuf := rfl
@[simp] theorem endTransaction_txBuf : (endTransaction s).txBuf = s.txBuf := rfl
@[simp] theorem endTransaction_rxState : (endTransaction s).rxState = restState s.cfg := rfl
@[simp] theorem endTransaction_rxLen : (endTransaction s).rxLen = 0 := rfl
@[simp] theorem endTransaction_rxNeed : (endTransaction s).rxNeed = s.rxNeed := rfl
@[simp] theorem endTransaction_runStatus : (endTransaction s).runStatus = s.runStatus := rfl
@[simp] theorem endTransaction_listenOnly : (endTransaction s).listenOnly = s.listenOnly := rfl
@[simp] theorem endTransaction_messageCount : (endTransaction s).messageCount = s.messageCount := rfl
@[simp] theorem endTransaction_eventCount : (endTransaction s).eventCount = s.eventCount := rfl
@[simp] theorem endTransaction_crcErrorCount : (endTransaction s).crcErrorCount = s.crcErrorCount := rfl
@[simp] theorem endTransaction_diagnosticRegister : (endTransaction s).diagnosticRegister = s.diagnosticRegister := rfl
@[simp] theorem endTransaction_exceptionErrorCount : (endTransaction s).exceptionErrorCount = s.exceptionErrorCount := rfl
@[simp] theorem endTransaction_noResponseCount : (endTransaction s).noResponseCount = s.noResponseCount := rfl
@[simp] theorem endTransaction_t0 : (endTransaction s).t0 = if s.cfg.silenceWaitEn = true then s.tick else s.t0 := rfl
@[simp] theorem endTransaction_tick : (endTransaction s).tick = s.tick := rfl
@[simp] theorem endTransaction_cfg : (endTransaction s).cfg = s.cfg := rfl
@[simp] theorem endTransaction_inputs : (endTransaction s).inputs = s.inputs := rfl
@[simp] theorem endTransaction_txAnswers : (endTransaction s).txAnswers = s.txAnswers := rfl
@[simp] theorem endTransaction_cancelPending : (endTransaction s).cancelPending = s.cancelPending := rfl
@[simp] theorem endTransaction_line : (endTransaction s).line = s.line := rfl
@[simp] theorem endTransaction_hostReads : (endTransaction s).hostReads = s.hostReads := rfl
@[simp] theorem endTransaction_freeCount : (endTransaction s).freeCount = s.freeCount := rfl

/-! ## failRun -/

@[simp] theorem failRun_mem : (failRun s).mem = s.mem := rfl
@[simp] theorem failRun_rxBuf : (failRun s).rxBuf = s.rxBuf := rfl
@[simp] theorem failRun_txBuf : (failRun s).txBuf = s.txBuf := rfl
@[simp] theorem failRun_rxState : (failRun s).rxState = .awaitId := rfl
@[simp] theorem failRun_rxLen : (failRun s).rxLen = 0 := rfl
@[simp] theorem failRun_rxNeed : (failRun s).rxNeed = s.rxNeed := rfl
@[simp] theorem failRun_runStatus : (failRun s).runStatus = .failed := rfl
@[simp] theorem failRun_listenOnly : (failRun s).listenOnly = s.listenOnly := rfl
@[simp] theorem failRun_messageCount : (failRun s).messageCount = s.messageCount := rfl
@[simp] theorem failRun_eventCount : (failRun s).eventCount = s.eventCount := rfl
@[simp] theorem failRun_crcErrorCount : (failRun s).crcErrorCount = s.crcErrorCount := rfl
@[simp] theorem failRun_diagnosticRegister : (failRun s).diagnosticRegister = s.diagnosticRegister := rfl
@[simp] theorem failRun_exceptionErrorCount : (failRun s).exceptionErrorCount = s.exceptionErrorCount := rfl
@[simp] theorem failRun_noResponseCount : (failRun s).noResponseCount = s.noResponseCount := rfl
@[simp] theorem failRun_t0 : (failRun s).t0 = s.t0 := rfl
@[simp] theorem failRun_tick : (failRun s).tick = s.tick := rfl
@[simp] theorem failRun_cfg : (failRun s).cfg = s.cfg := rfl
@[simp] theorem failRun_inputs : (failRun s).inputs = s.inputs := rfl
@[simp] theorem failRun_txAnswers : (failRun s).txAnswers = s.txAnswers := rfl
@[simp] theorem failRun_cancelPending : (failRun s).cancelPending = s.cancelPending := rfl
@[simp] theorem failRun_line : (failRun s).line = s.line := rfl
@[simp] theorem failRun_hostReads : (failRun s).hostReads = s.hostReads := rfl
@[simp] theorem failRun_freeCount : (failRun s).freeCount = s.freeCount := rfl

/-! ## rxAppend -/

@[simp] theorem rxAppend_mem (b : Byte) : (rxAppend b s).mem = s.mem := rfl
@[simp] theorem rxAppend_rxBuf (b : Byte) : (rxAppend b s).rxBuf = s.rxBuf.setIfInBounds s.rxLen b := rfl
@[simp] theorem rxAppend_txBuf (b : Byte) : (rxAppend b s).txBuf = s.txBuf := rfl
@[simp] theorem rxAppend_rxState (b : Byte) : (rxAppend b s).rxState = s.rxState := rfl
@[simp] theorem rxAppend_rxLen (b : Byte) : (rxAppend b s).rxLen = s.rxLen + 1 := rfl
@[simp] theorem rxAppend_rxNeed (b : Byte) : (rxAppend b s).rxNeed = s.rxNeed := rfl
@[simp] theorem rxAppend_runStatus (b : Byte) : (rxAppend b s).runStatus = s.runStatus := rfl
@[simp] theorem rxAppend_listenOnly (b : Byte) : (rxAppend b s).listenOnly = s.listenOnly := rfl
@[simp] theorem rxAppend_messageCount (b : Byte) : (rxAppend b s).messageCount = s.messageCount := rfl
@[simp] theorem rxAppend_eventCount (b : Byte) : (rxAppend b s).eventCount = s.eventCount := rfl
@[simp] theorem rxAppend_crcErrorCount (b : Byte) : (rxAppend b s).crcErrorCount = s.crcErrorCount := rfl
@[simp] theorem rxAppend_diagnosticRegister (b : Byte) : (rxAppend b s).diagnosticRegister = s.diagnosticRegister := rfl
@[simp] theorem rxAppend_exceptionErrorCount (b : Byte) : (rxAppend b s).exceptionErrorCount = s.exceptionErrorCount := rfl
@[simp] theorem rxAppend_noResponseCount (b : Byte) : (rxAppend b s).noResponseCount = s.noResponseCount := rfl
@[simp] theorem rxAppend_t0 (b : Byte) : (rxAppend b s).t0 = s.t0 := rfl
@[simp] theorem rxAppend_tick (b : Byte) : (rxAppend b s).tick = s.tick := rfl
@[simp] theorem rxAppend_cfg (b : Byte) : (rxAppend b s).cfg = s.cfg := rfl
@[simp] theorem rxAppend_inputs (b : Byte) : (rxAppend b s).inputs = s.inputs := rfl
@[simp] theorem rxAppend_txAnswers (b : Byte) : (rxAppend b s).txAnswers = s.txAnswers := rfl
@[simp] theorem rxAppend_cancelPending (b : Byte) : (rxAppend b s).cancelPending = s.cancelPending := rfl
@[simp] theorem rxAppend_line (b : Byte) : (rxAppend b s).line = s.line := rfl
@[simp] theorem rxAppend_hostReads (b : Byte) : (rxAppend b s).hostReads = s.hostReads := rfl
@[simp] theorem rxAppend_freeCount (b : Byte) : (rxAppend b s).freeCount = s.freeCount := rfl

/-! ## startWait -/

@[simp] theorem startWait_mem : (startWait s).mem = s.mem := rfl
@[simp] theorem startWait_rxBuf : (startWait s).rxBuf = s.rxBuf := rfl
@[simp] theorem startWait_txBuf : (startWait s).txBuf = s.txBuf := rfl
@[simp] theorem startWait_rxState : (startWait s).rxState = s.rxState := rfl
@[simp] theorem startWait_rxLen : (startWait s).rxLen = s.rxLen := rfl
@[simp] theorem startWait_rxNeed : (startWait s).rxNeed = s.rxNeed := rfl
@[simp] theorem startWait_runStatus : (startWait s).runStatus = s.runStatus := rfl
@[simp] theorem startWait_listenOnly : (startWait s).listenOnly = s.listenOnly := rfl
@[simp] theorem startWait_messageCount : (startWait s).messageCount = s.messageCount := rfl
@[simp] theorem startWait_eventCount : (startWait s).eventCount = s.eventCount := rfl
@[simp] theorem startWait_crcErrorCount : (startWait s).crcErrorCount = s.crcErrorCount := rfl
@[simp] theorem startWait_diagnosticRegister : (startWait s).diagnosticRegister = s.diagnosticRegister := rfl
@[simp] theorem startWait_exceptionErrorCount : (startWait s).exceptionErrorCount = s.exceptionErrorCount := rfl
@[simp] theorem startWait_noResponseCount : (startWait s).noResponseCount = s.noResponseCount := rfl
@[simp] theorem startWait_t0 : (startWait s).t0 = s.tick := rfl
@[simp] theorem startWait_tick : (startWait s).tick = s.tick := rfl
@[simp] theorem startWait_cfg : (startWait s).cfg = s.cfg := rfl
@[simp] theorem startWait_inputs : (startWait s).inputs = s.inputs := rfl
@[simp] theorem startWait_txAnswers : (startWait s).txAnswers = s.txAnswers := rfl
@[simp] theorem startWait_cancelPending : (startWait s).cancelPending = s.cancelPending := rfl
@[simp] theorem startWait_line : (startWait s).line = s.line := rfl
@[simp] theorem startWait_hostReads : (startWait s).hostReads = s.hostReads := rfl
@[simp] theorem startWait_freeCount : (startWait s).freeCount = s.freeCount := rfl

/-! ## advanceTick -/

@[simp] theorem advanceTick_mem (ms : Nat) : (advanceTick ms s).mem = s.mem := rfl
@[simp] theorem advanceTick_rxBuf (ms : Nat) : (advanceTick ms s).rxBuf = s.rxBuf := rfl
@[simp] theorem advanceTick_txBuf (ms : Nat) : (advanceTick ms s).txBuf = s.txBuf := rfl
@[simp] theorem advanceTick_rxState (ms : Nat) : (advanceTick ms s).rxState = s.rxState := rfl
@[simp] theorem advanceTick_rxLen (ms : Nat) : (advanceTick ms s).rxLen = s.rxLen := rfl
@[simp] theorem advanceTick_rxNeed (ms : Nat) : (advanceTick ms s).rxNeed = s.rxNeed := rfl
@[simp] theorem advanceTick_runStatus (ms : Nat) : (advanceTick ms s).runStatus = s.runStatus := rfl
@[simp] theorem advanceTick_listenOnly (ms : Nat) : (advanceTick ms s).listenOnly = s.listenOnly := rfl
@[simp] theorem advanceTick_messageCount (ms : Nat) : (advanceTick ms s).messageCount = s.messageCount := rfl
@[simp] theorem advanceTick_eventCount (ms : Nat) : (advanceTick ms s).eventCount = s.eventCount := rfl
@[simp] theorem advanceTick_crcErrorCount (ms : Nat) : (advanceTick ms s).crcErrorCount = s.crcErrorCount := rfl
@[simp] theorem advanceTick_diagnosticRegister (ms : Nat) : (advanceTick ms s).diagnosticRegister = s.diagnosticRegister := rfl
@[simp] theorem advanceTick_exceptionErrorCount (ms : Nat) : (advanceTick ms s).exceptionErrorCount = s.exceptionErrorCount := rfl
@[simp] theorem advanceTick_noResponseCount (ms : Nat) : (advanceTick ms s).noResponseCount = s.noResponseCount := rfl
@[simp] theorem advanceTick_t0 (ms : Nat) : (advanceTick ms s).t0 = s.t0 := rfl
@[simp] theorem advanceTick_tick (ms : Nat) : (advanceTick ms s).tick = (s.tick + ms) % 2 ^ s.cfg.tickW := rfl
@[simp] theorem advanceTick_cfg (ms : Nat) : (advanceTick ms s).cfg = s.cfg := rfl
@[simp] theorem advanceTick_inputs (ms : Nat) : (advanceTick ms s).inputs = s.inputs := rfl
@[simp] theorem advanceTick_txAnswers (ms : Nat) : (advanceTick ms s).txAnswers = s.txAnswers := rfl
@[simp] theorem advanceTick_cancelPending (ms : Nat) : (advanceTick ms s).cancelPending = s.cancelPending := rfl
@[simp] theorem advanceTick_line (ms : Nat) : (advanceTick ms s).line = s.line := rfl
@[simp] theorem advanceTick_hostReads (ms : Nat) : (advanceTick ms s).hostReads = s.hostReads := rfl
@[simp] theorem advanceTick_freeCount (ms : Nat) : (advanceTick ms s).freeCount = s.freeCount := rfl

/-! ## dropFrame -/

@[simp] theorem dropFrame_mem : (dropFrame s).mem = s.mem := rfl
@[simp] theorem dropFrame_rxBuf : (dropFrame s).rxBuf = s.rxBuf := rfl
@[simp] theorem dropFrame_txBuf : (dropFrame s).txBuf = s.txBuf := rfl
@[simp] theorem dropFrame_rxState : (dropFrame s).rxState = .awaitId := rfl
@[simp] theorem dropFrame_rxLen : (dropFrame s).rxLen = 0 := rfl
@[simp] theorem dropFrame_rxNeed : (dropFrame s).rxNeed = s.rxNeed := rfl
@[simp] theorem dropFrame_runStatus : (dropFrame s).runStatus = s.runStatus := rfl
@[simp] theorem dropFrame_listenOnly : (dropFrame s).listenOnly = s.listenOnly := rfl
@[simp] theorem dropFrame_messageCount : (dropFrame s).messageCount = s.messageCount := rfl
@[simp] theorem dropFrame_eventCount : (dropFrame s).eventCount = s.eventCount := rfl
@[simp] theorem dropFrame_crcErrorCount : (dropFrame s).crcErrorCount = s.crcErrorCount := rfl
@[simp] theorem dropFrame_diagnosticRegister : (dropFrame s).diagnosticRegister = s.diagnosticRegister := rfl
@[simp] theorem dropFrame_exceptionErrorCount : (dropFrame s).exceptionErrorCount = s.exceptionErrorCount := rfl
@[simp] theorem dropFrame_noResponseCount : (dropFrame s).noResponseCount = s.noResponseCount := rfl
@[simp] theorem dropFrame_t0 : (dropFrame s).t0 = s.t0 := rfl
@[simp] theorem dropFrame_tick : (dropFrame s).tick = s.tick := rfl
@[simp] theorem dropFrame_cfg : (dropFrame s).cfg = s.cfg := rfl
@[simp] theorem dropFrame_inputs : (dropFrame s).inputs = s.inputs := rfl
@[simp] theorem dropFrame_txAnswers : (dropFrame s).txAnswers = s.txAnswers := rfl
@[simp] theorem dropFrame_cancelPending : (dropFrame s).cancelPending = s.cancelPending := rfl
@[simp] theorem dropFrame_line : (dropFrame s).line = s.line := rfl
@[simp] theorem dropFrame_hostReads : (dropFrame s).hostReads = s.hostReads := rfl
@[simp] theorem dropFrame_freeCount : (dropFrame s).freeCount = s.freeCount := rfl

/-! ## dropPartialFrame -/

@[simp] theorem dropPartialFrame_mem : (dropPartialFrame s).mem = s.mem := rfl
@[simp] theorem dropPartialFrame_rxBuf : (dropPartialFrame s).rxBuf = s.rxBuf := rfl
@[simp] theorem dropPartialFrame_txBuf : (dropPartialFrame s).txBuf = s.txBuf := rfl
@[simp] theorem dropPartialFrame_rxState : (dropPartialFrame s).rxState = .awaitId := rfl
@[simp] theorem dropPartialFrame_rxLen : (dropPartialFrame s).rxLen = 0 := rfl
@[simp] theorem dropPartialFrame_rxNeed : (dropPartialFrame s).rxNeed = 0 := rfl
@[simp] theorem dropPartialFrame_runStatus : (dropPartialFrame s).runStatus = s.runStatus := rfl
@[simp] theorem dropPartialFrame_listenOnly : (dropPartialFrame s).listenOnly = s.listenOnly := rfl
@[simp] theorem dropPartialFrame_messageCount : (dropPartialFrame s).messageCount = s.messageCount := rfl
@[simp] theorem dropPartialFrame_eventCount : (dropPartialFrame s).eventCount = s.eventCount := rfl
@[simp] theorem dropPartialFrame_crcErrorCount : (dropPartialFrame s).crcErrorCount = s.crcErrorCount := rfl
@[simp] theorem dropPartialFrame_diagnosticRegister : (dropPartialFrame s).diagnosticRegister = s.diagnosticRegister := rfl
@[simp] theorem dropPartialFrame_exceptionErrorCount : (dropPartialFrame s).exceptionErrorCount = s.exceptionErrorCount := rfl
@[simp] theorem dropPartialFrame_noResponseCount : (dropPartialFrame s).noResponseCount = s.noResponseCount := rfl
@[simp] theorem dropPartialFrame_t0 : (dropPartialFrame s).t0 = s.t0 := rfl
@[simp] theorem dropPartialFrame_tick : (dropPartialFrame s).tick = s.tick := rfl
@[simp] theorem dropPartialFrame_cfg : (dropPartialFrame s).cfg = s.cfg := rfl
@[simp] theorem dropPartialFrame_inputs : (dropPartialFrame s).inputs = s.inputs := rfl
@[simp] theorem dropPartialFrame_txAnswers : (dropPartialFrame s).txAnswers = s.txAnswers := rfl
@[simp] theorem dropPartialFrame_cancelPending : (dropPartialFrame s).cancelPending = s.cancelPending := rfl
@[simp] theorem dropPartialFrame_line : (dropPartialFrame s).line = s.line := rfl
@[simp] theorem dropPartialFrame_hostReads : (dropPartialFrame s).hostReads = s.hostReads := rfl
@[simp] theorem dropPartialFrame_freeCount : (dropPartialFrame s).freeCount = s.freeCount := rfl

/-! ## completeRun -/

@[simp] theorem completeRun_mem : (completeRun s).mem = s.mem := rfl
@[simp] theorem completeRun_rxBuf : (completeRun s).rxBuf = s.rxBuf := rfl
@[simp] theorem completeRun_txBuf : (completeRun s).txBuf = s.txBuf := rfl
@[simp] theorem completeRun_rxState : (completeRun s).rxState = s.rxState := rfl
@[simp] theorem completeRun_rxLen : (completeRun s).rxLen = s.rxLen := rfl
@[simp] theorem completeRun_rxNeed : (completeRun s).rxNeed = s.rxNeed := rfl
@[simp] theorem completeRun_runStatus : (completeRun s).runStatus = .completed := rfl
@[simp] theorem completeRun_listenOnly : (completeRun s).listenOnly = s.listenOnly := rfl
@[simp] theorem completeRun_messageCount : (completeRun s).messageCount = s.messageCount := rfl
@[simp] theorem completeRun_eventCount : (completeRun s).eventCount = s.eventCount := rfl
@[simp] theorem completeRun_crcErrorCount : (completeRun s).crcErrorCount = s.crcErrorCount := rfl
@[simp] theorem completeRun_diagnosticRegister : (completeRun s).diagnosticRegister = s.diagnosticRegister := rfl
@[simp] theorem completeRun_exceptionErrorCount : (completeRun s).exceptionErrorCount = s.exceptionErrorCount := rfl
@[simp] theorem completeRun_noResponseCount : (completeRun s).noResponseCount = s.noResponseCount := rfl
@[simp] theorem completeRun_t0 : (completeRun s).t0 = s.t0 := rfl
@[simp] theorem completeRun_tick : (completeRun s).tick = s.tick := rfl
@[simp] theorem completeRun_cfg : (completeRun s).cfg = s.cfg := rfl
@[simp] theorem completeRun_inputs : (completeRun s).inputs = s.inputs := rfl
@[simp] theorem completeRun_txAnswers : (completeRun s).txAnswers = s.txAnswers := rfl
@[simp] theorem completeRun_cancelPending : (completeRun s).cancelPending = false := rfl
@[simp] theorem completeRun_line : (completeRun s).line = s.line := rfl
@[simp] theorem completeRun_hostReads : (completeRun s).hostReads = s.hostReads := rfl
@[simp] theorem completeRun_freeCount : (completeRun s).freeCount = s.freeCount := rfl

/-! ## drawFree -/

@[simp] theorem drawFree_mem : (drawFree s).mem = s.mem := rfl
@[simp] theorem drawFree_rxBuf : (drawFree s).rxBuf = s.rxBuf := rfl
@[simp] theorem drawFree_txBuf : (drawFree s).txBuf = s.txBuf := rfl
@[simp] theorem drawFree_rxState : (drawFree s).rxState = s.rxState := rfl
@[simp] theorem drawFree_rxLen : (drawFree s).rxLen = s.rxLen := rfl
@[simp] theorem drawFree_rxNeed : (drawFree s).rxNeed = s.rxNeed := rfl
@[simp] theorem drawFree_runStatus : (drawFree s).runStatus = s.runStatus := rfl
@[simp] theorem drawFree_listenOnly : (drawFree s).listenOnly = s.listenOnly := rfl
@[simp] theorem drawFree_messageCount : (drawFree s).messageCount = s.messageCount := rfl
@[simp] theorem drawFree_eventCount : (drawFree s).eventCount = s.eventCount := rfl
@[simp] theorem drawFree_crcErrorCount : (drawFree s).crcErrorCount = s.crcErrorCount := rfl
@[simp] theorem drawFree_diagnosticRegister : (drawFree s).diagnosticRegister = s.diagnosticRegister := rfl
@[simp] theorem drawFree_exceptionErrorCount : (drawFree s).exceptionErrorCount = s.exceptionErrorCount := rfl
@[simp] theorem drawFree_noResponseCount : (drawFree s).noResponseCount = s.noResponseCount := rfl
@[simp] theorem drawFree_t0 : (drawFree s).t0 = s.t0 := rfl
@[simp] theorem drawFree_tick : (drawFree s).tick = s.tick := rfl
@[simp] theorem drawFree_cfg : (drawFree s).cfg = s.cfg := rfl
@[simp] theorem drawFree_inputs : (drawFree s).inputs = s.inputs := rfl
@[simp] theorem drawFree_txAnswers : (drawFree s).txAnswers = s.txAnswers := rfl
@[simp] theorem drawFree_cancelPending : (drawFree s).cancelPending = s.cancelPending := rfl
@[simp] theorem drawFree_line : (drawFree s).line = s.line := rfl
@[simp] theorem drawFree_hostReads : (drawFree s).hostReads = s.hostReads := rfl
@[simp] theorem drawFree_freeCount : (drawFree s).freeCount = s.freeCount + 1 := rfl

/-! ## acceptCancel -/

@[simp] theorem acceptCancel_mem : (acceptCancel s).mem = s.mem := rfl
@[simp] theorem acceptCancel_rxBuf : (acceptCancel s).rxBuf = s.rxBuf := rfl
@[simp] theorem acceptCancel_txBuf : (acceptCancel s).txBuf = s.txBuf := rfl
@[simp] theorem acceptCancel_rxState : (acceptCancel s).rxState = .awaitId := rfl
@[simp] theorem acceptCancel_rxLen : (acceptCancel s).rxLen = 0 := rfl
@[simp] theorem acceptCancel_rxNeed : (acceptCancel s).rxNeed = 0 := rfl
@[simp] theorem acceptCancel_runStatus : (acceptCancel s).runStatus = .completed := rfl
@[simp] theorem acceptCancel_listenOnly : (acceptCancel s).listenOnly = s.listenOnly := rfl
@[simp] theorem acceptCancel_messageCount : (acceptCancel s).messageCount = s.messageCount := rfl
@[simp] theorem acceptCancel_eventCount : (acceptCancel s).eventCount = s.eventCount := rfl
@[simp] theorem acceptCancel_crcErrorCount : (acceptCancel s).crcErrorCount = s.crcErrorCount := rfl
@[simp] theorem acceptCancel_diagnosticRegister : (acceptCancel s).diagnosticRegister = s.diagnosticRegister := rfl
@[simp] theorem acceptCancel_exceptionErrorCount : (acceptCancel s).exceptionErrorCount = s.exceptionErrorCount := rfl
@[simp] theorem acceptCancel_noResponseCount : (acceptCancel s).noResponseCount = s.noResponseCount := rfl
@[simp] theorem acceptCancel_t0 : (acceptCancel s).t0 = s.t0 := rfl
@[simp] theorem acceptCancel_tick : (acceptCancel s).tick = s.tick := rfl
@[simp] theorem acceptCancel_cfg : (acceptCancel s).cfg = s.cfg := rfl
@[simp] theorem acceptCancel_inputs : (acceptCancel s).inputs = s.inputs := rfl
@[simp] theorem acceptCancel_txAnswers : (acceptCancel s).txAnswers = s.txAnswers := rfl
@[simp] theorem acceptCancel_cancelPending : (acceptCancel s).cancelPending = false := rfl
@[simp] theorem acceptCancel_line : (acceptCancel s).line = s.line := rfl
@[simp] theorem acceptCancel_hostReads : (acceptCancel s).hostReads = s.hostReads := rfl
@[simp] theorem acceptCancel_freeCount : (acceptCancel s).freeCount = s.freeCount := rfl

/-! ## deferCancel -/

@[simp] theorem deferCancel_mem : (deferCancel s).mem = s.mem := rfl
@[simp] theorem deferCancel_rxBuf : (deferCancel s).rxBuf = s.rxBuf := rfl
@[simp] theorem deferCancel_txBuf : (deferCancel s).txBuf = s.txBuf := rfl
@[simp] theorem deferCancel_rxState : (deferCancel s).rxState = s.rxState := rfl
@[simp] theorem deferCancel_rxLen : (deferCancel s).rxLen = s.rxLen := rfl
@[simp] theorem deferCancel_rxNeed : (deferCancel s).rxNeed = s.rxNeed := rfl
@[simp] theorem deferCancel_runStatus : (deferCancel s).runStatus = s.runStatus := rfl
@[simp] theorem deferCancel_listenOnly : (deferCancel s).listenOnly = s.listenOnly := rfl
@[simp] theorem deferCancel_messageCount : (deferCancel s).messageCount = s.messageCount := rfl
@[simp] theorem deferCancel_eventCount : (deferCancel s).eventCount = s.eventCount := rfl
@[simp] theorem deferCancel_crcErrorCount : (deferCancel s).crcErrorCount = s.crcErrorCount := rfl
@[simp] theorem deferCancel_diagnosticRegister : (deferCancel s).diagnosticRegister = s.diagnosticRegister := rfl
@[simp] theorem deferCancel_exceptionErrorCount : (deferCancel s).exceptionErrorCount = s.exceptionErrorCount := rfl
@[simp] theorem deferCancel_noResponseCount : (deferCancel s).noResponseCount = s.noResponseCount := rfl
@[simp] theorem deferCancel_t0 : (deferCancel s).t0 = s.t0 := rfl
@[simp] theorem deferCancel_tick : (deferCancel s).tick = s.tick := rfl
@[simp] theorem deferCancel_cfg : (deferCancel s).cfg = s.cfg := rfl
@[simp] theorem deferCancel_inputs : (deferCancel s).inputs = s.inputs := rfl
@[simp] theorem deferCancel_txAnswers : (deferCancel s).txAnswers = s.txAnswers := rfl
@[simp] theorem deferCancel_cancelPending : (deferCancel s).cancelPending = true := rfl
@[simp] theorem deferCancel_line : (deferCancel s).line = s.line := rfl
@[simp] theorem deferCancel_hostReads : (deferCancel s).hostReads = s.hostReads := rfl
@[simp] theorem deferCancel_freeCount : (deferCancel s).freeCount = s.freeCount := rfl

/-! ## enterLoop -/

@[simp] theorem enterLoop_mem : (enterLoop s).mem = s.mem := rfl
@[simp] theorem enterLoop_rxBuf : (enterLoop s).rxBuf = s.rxBuf := rfl
@[simp] theorem enterLoop_txBuf : (enterLoop s).txBuf = s.txBuf := rfl
@[simp] theorem enterLoop_rxState : (enterLoop s).rxState = .awaitId := rfl
@[simp] theorem enterLoop_rxLen : (enterLoop s).rxLen = 0 := rfl
@[simp] theorem enterLoop_rxNeed : (enterLoop s).rxNeed = s.rxNeed := rfl
@[simp] theorem enterLoop_runStatus : (enterLoop s).runStatus = .running := rfl
@[simp] theorem enterLoop_listenOnly : (enterLoop s).listenOnly = s.listenOnly := rfl
@[simp] theorem enterLoop_messageCount : (enterLoop s).messageCount = s.messageCount := rfl
@[simp] theorem enterLoop_eventCount : (enterLoop s).eventCount = s.eventCount := rfl
@[simp] theorem enterLoop_crcErrorCount : (enterLoop s).crcErrorCount = s.crcErrorCount := rfl
@[simp] theorem enterLoop_diagnosticRegister : (enterLoop s).diagnosticRegister = s.diagnosticRegister := rfl
@[simp] theorem enterLoop_exceptionErrorCount : (enterLoop s).exceptionErrorCount = s.exceptionErrorCount := rfl
@[simp] theorem enterLoop_noResponseCount : (enterLoop s).noResponseCount = s.noResponseCount := rfl
@[simp] theorem enterLoop_t0 : (enterLoop s).t0 = s.t0 := rfl
@[simp] theorem enterLoop_tick : (enterLoop s).tick = s.tick := rfl
@[simp] theorem enterLoop_cfg : (enterLoop s).cfg = s.cfg := rfl
@[simp] theorem enterLoop_inputs : (enterLoop s).inputs = s.inputs := rfl
@[simp] theorem enterLoop_txAnswers : (enterLoop s).txAnswers = s.txAnswers := rfl
@[simp] theorem enterLoop_cancelPending : (enterLoop s).cancelPending = s.cancelPending := rfl
@[simp] theorem enterLoop_line : (enterLoop s).line = s.line := rfl
@[simp] theorem enterLoop_hostReads : (enterLoop s).hostReads = s.hostReads := rfl
@[simp] theorem enterLoop_freeCount : (enterLoop s).freeCount = s.freeCount := rfl

/-! ## setBitBank: the bank changes, nothing else does -/

@[simp] theorem setBitBank_rxBuf (b : BitBank) (v : Bank 1) : (setBitBank b v s).rxBuf = s.rxBuf := by cases b <;> rfl
@[simp] theorem setBitBank_txBuf (b : BitBank) (v : Bank 1) : (setBitBank b v s).txBuf = s.txBuf := by cases b <;> rfl
@[simp] theorem setBitBank_rxState (b : BitBank) (v : Bank 1) : (setBitBank b v s).rxState = s.rxState := by cases b <;> rfl
@[simp] theorem setBitBank_rxLen (b : BitBank) (v : Bank 1) : (setBitBank b v s).rxLen = s.rxLen := by cases b <;> rfl
@[simp] theorem setBitBank_rxNeed (b : BitBank) (v : Bank 1) : (setBitBank b v s).rxNeed = s.rxNeed := by cases b <;> rfl
@[simp] theorem setBitBank_runStatus (b : BitBank) (v : Bank 1) : (setBitBank b v s).runStatus = s.runStatus := by cases b <;> rfl
@[simp] theorem setBitBank_listenOnly (b : BitBank) (v : Bank 1) : (setBitBank b v s).listenOnly = s.listenOnly := by cases b <;> rfl
@[simp] theorem setBitBank_messageCount (b : BitBank) (v : Bank 1) : (setBitBank b v s).messageCount = s.messageCount := by cases b <;> rfl
@[simp] theorem setBitBank_eventCount (b : BitBank) (v : Bank 1) : (setBitBank b v s).eventCount = s.eventCount := by cases b <;> rfl
@[simp] theorem setBitBank_crcErrorCount (b : BitBank) (v : Bank 1) : (setBitBank b v s).crcErrorCount = s.crcErrorCount := by cases b <;> rfl
@[simp] theorem setBitBank_diagnosticRegister (b : BitBank) (v : Bank 1) : (setBitBank b v s).diagnosticRegister = s.diagnosticRegister := by cases b <;> rfl
@[simp] theorem setBitBank_exceptionErrorCount (b : BitBank) (v : Bank 1) : (setBitBank b v s).exceptionErrorCount = s.exceptionErrorCount := by cases b <;> rfl
@[simp] theorem setBitBank_noResponseCount (b : BitBank) (v : Bank 1) : (setBitBank b v s).noResponseCount = s.noResponseCount := by cases b <;> rfl
@[simp] theorem setBitBank_t0 (b : BitBank) (v : Bank 1) : (setBitBank b v s).t0 = s.t0 := by cases b <;> rfl
@[simp] theorem setBitBank_tick (b : BitBank) (v : Bank 1) : (setBitBank b v s).tick = s.tick := by cases b <;> rfl
@[simp] theorem setBitBank_cfg (b : BitBank) (v : Bank 1) : (setBitBank b v s).cfg = s.cfg := by cases b <;> rfl
@[simp] theorem setBitBank_inputs (b : BitBank) (v : Bank 1) : (setBitBank b v s).inputs = s.inputs := by cases b <;> rfl
@[simp] theorem setBitBank_txAnswers (b : BitBank) (v : Bank 1) : (setBitBank b v s).txAnswers = s.txAnswers := by cases b <;> rfl
@[simp] theorem setBitBank_cancelPending (b : BitBank) (v : Bank 1) : (setBitBank b v s).cancelPending = s.cancelPending := by cases b <;> rfl
@[simp] theorem setBitBank_line (b : BitBank) (v : Bank 1) : (setBitBank b v s).line = s.line := by cases b <;> rfl
@[simp] theorem setBitBank_hostReads (b : BitBank) (v : Bank 1) : (setBitBank b v s).hostReads = s.hostReads := by cases b <;> rfl
@[simp] theorem setBitBank_freeCount (b : BitBank) (v : Bank 1) : (setBitBank b v s).freeCount = s.freeCount := by cases b <;> rfl

/-! ## setRegBank: the bank changes, nothing else does -/

@[simp] theorem setRegBank_rxBuf (b : RegBank) (v : Bank 16) : (setRegBank b v s).rxBuf = s.rxBuf := by cases b <;> rfl
@[simp] theorem setRegBank_txBuf (b : RegBank) (v : Bank 16) : (setRegBank b v s).txBuf = s.txBuf := by cases b <;> rfl
@[simp] theorem setRegBank_rxState (b : RegBank) (v : Bank 16) : (setRegBank b v s).rxState = s.rxState := by cases b <;> rfl
@[simp] theorem setRegBank_rxLen (b : RegBank) (v : Bank 16) : (setRegBank b v s).rxLen = s.rxLen := by cases b <;> rfl
@[simp] theorem setRegBank_rxNeed (b : RegBank) (v : Bank 16) : (setRegBank b v s).rxNeed = s.rxNeed := by cases b <;> rfl
@[simp] theorem setRegBank_runStatus (b : RegBank) (v : Bank 16) : (setRegBank b v s).runStatus = s.runStatus := by cases b <;> rfl
@[simp] theorem setRegBank_listenOnly (b : RegBank) (v : Bank 16) : (setRegBank b v s).listenOnly = s.listenOnly := by cases b <;> rfl
@[simp] theorem setRegBank_messageCount (b : RegBank) (v : Bank 16) : (setRegBank b v s).messageCount = s.messageCount := by cases b <;> rfl
@[simp] theorem setRegBank_eventCount (b : RegBank) (v : Bank 16) : (setRegBank b v s).eventCount = s.eventCount := by cases b <;> rfl
@[simp] theorem setRegBank_crcErrorCount (b : RegBank) (v : Bank 16) : (setRegBank b v s).crcErrorCount = s.crcErrorCount := by cases b <;> rfl
@[simp] theorem setRegBank_diagnosticRegister (b : RegBank) (v : Bank 16) : (setRegBank b v s).diagnosticRegister = s.diagnosticRegister := by cases b <;> rfl
@[simp] theorem setRegBank_exceptionErrorCount (b : RegBank) (v : Bank 16) : (setRegBank b v s).exceptionErrorCount = s.exceptionErrorCount := by cases b <;> rfl
@[simp] theorem setRegBank_noResponseCount (b : RegBank) (v : Bank 16) : (setRegBank b v s).noResponseCount = s.noResponseCount := by cases b <;> rfl
@[simp] theorem setRegBank_t0 (b : RegBank) (v : Bank 16) : (setRegBank b v s).t0 = s.t0 := by cases b <;> rfl
@[simp] theorem setRegBank_tick (b : RegBank) (v : Bank 16) : (setRegBank b v s).tick = s.tick := by cases b <;> rfl
@[simp] theorem setRegBank_cfg (b : RegBank) (v : Bank 16) : (setRegBank b v s).cfg = s.cfg := by cases b <;> rfl
@[simp] theorem setRegBank_inputs (b : RegBank) (v : Bank 16) : (setRegBank b v s).inputs = s.inputs := by cases b <;> rfl
@[simp] theorem setRegBank_txAnswers (b : RegBank) (v : Bank 16) : (setRegBank b v s).txAnswers = s.txAnswers := by cases b <;> rfl
@[simp] theorem setRegBank_cancelPending (b : RegBank) (v : Bank 16) : (setRegBank b v s).cancelPending = s.cancelPending := by cases b <;> rfl
@[simp] theorem setRegBank_line (b : RegBank) (v : Bank 16) : (setRegBank b v s).line = s.line := by cases b <;> rfl
@[simp] theorem setRegBank_hostReads (b : RegBank) (v : Bank 16) : (setRegBank b v s).hostReads = s.hostReads := by cases b <;> rfl
@[simp] theorem setRegBank_freeCount (b : RegBank) (v : Bank 16) : (setRegBank b v s).freeCount = s.freeCount := by cases b <;> rfl

@[simp] theorem bitBank_setBitBank (b : BitBank) (v : Bank 1) : bitBank (setBitBank b v s) b = v := by cases b <;> rfl

theorem bitBank_setBitBank_of_ne {b b' : BitBank} (h : b' ≠ b) (v : Bank 1) :
    bitBank (setBitBank b v s) b' = bitBank s b' := by cases b <;> cases b' <;> first | rfl | exact absurd rfl h

@[simp] theorem regBank_setBitBank (b : BitBank) (b' : RegBank) (v : Bank 1) :
    regBank (setBitBank b v s) b' = regBank s b' := by cases b <;> cases b' <;> rfl

@[simp] theorem regBank_setRegBank (b : RegBank) (v : Bank 16) : regBank (setRegBank b v s) b = v := by cases b <;> rfl

theorem regBank_setRegBank_of_ne {b b' : RegBank} (h : b' ≠ b) (v : Bank 16) :
    regBank (setRegBank b v s) b' = regBank s b' := by cases b <;> cases b' <;> first | rfl | exact absurd rfl h

@[simp] theorem bitBank_setRegBank (b : RegBank) (b' : BitBank) (v : Bank 16) :
    bitBank (setRegBank b v s) b' = bitBank s b' := by cases b <;> cases b' <;> rfl

/-- The banks a state shows depend on its `mem` alone. -/
theorem bitBank_congr {s t : State} (h : t.mem = s.mem) (b : BitBank) : bitBank t b = bitBank s b := by
  cases b <;> simp [bitBank, h]

theorem regBank_congr {s t : State} (h : t.mem = s.mem) (b : RegBank) : regBank t b = regBank s b := by
  cases b <;> simp [regBank, h]

theorem unitAt_congr {s t : State} (h : t.mem = s.mem) (b : BankId) (a : Nat) : unitAt t b a = unitAt s b a := by
  cases b <;> simp [unitAt, bitBank_congr h, regBank_congr h]

end Sys2Proof.Machine
end

