-- ==== Sys2Proof/Laws/Bank.lean ====
section
/-! SUPPORT. The laws of a bank: what a read after a write gives, and that every operation keeps the canonical form and
the capacity bound. -/

namespace Sys2Proof.Machine

open Sys2Proof

variable {w : Nat}

/-! ## The canonical form -/

theorem bankWfFrom_mono {lo lo' : Nat} (h : lo' ≤ lo) {b : Bank w} (hb : bankWfFrom lo b = true) :
    bankWfFrom lo' b = true := by
  cases b with
  | nil => rfl
  | cons e rest =>
    simp only [bankWfFrom, Bool.and_eq_true, decide_eq_true_eq] at hb ⊢
    exact ⟨⟨by omega, hb.1.2⟩, hb.2⟩

/-- Below the lowest offset a canonical bank can list, every offset reads as unlisted. -/
theorem bankRead_of_lt {lo : Nat} {b : Bank w} (hb : bankWfFrom lo b = true) {a : Nat} (ha : a < lo) :
    bankRead b a = bankUnlisted w := by
  induction b generalizing lo with
  | nil => rfl
  | cons e rest ih =>
    simp only [bankWfFrom, Bool.and_eq_true, decide_eq_true_eq] at hb
    obtain ⟨⟨hlo, -⟩, hrest⟩ := hb
    rw [bankRead, if_neg (by omega)]
    exact ih hrest (by omega)

theorem bankWfFrom_bankWrite {lo : Nat} {b : Bank w} (hb : bankWfFrom lo b = true) {a : Nat} (ha : lo ≤ a)
    (v : BitVec w) : bankWfFrom lo (bankWrite b a v) = true := by
  induction b generalizing lo with
  | nil =>
    by_cases hv : v = bankUnlisted w <;> simp [bankWrite, bankWfFrom, hv, ha]
  | cons e rest ih =>
    obtain ⟨k, x⟩ := e
    simp only [bankWfFrom, Bool.and_eq_true, decide_eq_true_eq] at hb
    obtain ⟨⟨hlo, hx⟩, hrest⟩ := hb
    rw [bankWrite]
    split
    · next hak =>
      split
      · simp [bankWfFrom, hlo, hx, hrest]
      · next hv => simp [bankWfFrom, ha, hv, hx, hrest, hak]
    · split
      · next hak =>
        subst hak
        split
        · exact bankWfFrom_mono (by omega) hrest
        · next hv => simp [bankWfFrom, ha, hv, hrest]
      · next h1 h2 =>
        simp only [bankWfFrom, Bool.and_eq_true, decide_eq_true_eq]
        exact ⟨⟨hlo, hx⟩, ih hrest (by omega)⟩

/-- A write keeps the canonical form. -/
theorem bankWf_bankWrite {b : Bank w} (hb : bankWf b = true) (a : Nat) (v : BitVec w) :
    bankWf (bankWrite b a v) = true := bankWfFrom_bankWrite hb (Nat.zero_le a) v

theorem bankWf_bankWriteRange {b : Bank w} (hb : bankWf b = true) (a : Nat) (vs : List (BitVec w)) :
    bankWf (bankWriteRange b a vs) = true := by
  induction vs generalizing b a with
  | nil => exact hb
  | cons v vs ih => exact ih (bankWf_bankWrite hb a v) (a + 1)

/-! ## Read after write -/

theorem bankRead_bankWrite_same_from {lo : Nat} {b : Bank w} (hb : bankWfFrom lo b = true) (a : Nat) (v : BitVec w) :
    bankRead (bankWrite b a v) a = v := by
  induction b generalizing lo with
  | nil => by_cases hv : v = bankUnlisted w <;> simp [bankWrite, bankRead, hv]
  | cons e rest ih =>
    obtain ⟨k, x⟩ := e
    simp only [bankWfFrom, Bool.and_eq_true, decide_eq_true_eq] at hb
    obtain ⟨⟨hlo, hx⟩, hrest⟩ := hb
    rw [bankWrite]
    split
    · next hak =>
      split
      · next hv =>
        rw [bankRead, if_neg (by omega), hv]
        exact bankRead_of_lt hrest (by omega)
      · simp [bankRead]
    · split
      · next hak =>
        subst hak
        split
        · next hv => rw [hv]; exact bankRead_of_lt hrest (by omega)
        · simp [bankRead]
      · next h1 h2 =>
        rw [bankRead, if_neg (by omega)]
        exact ih hrest

/-- A read of the offset just written gives the value written. -/
theorem bankRead_bankWrite_same {b : Bank w} (hb : bankWf b = true) (a : Nat) (v : BitVec w) :
    bankRead (bankWrite b a v) a = v := bankRead_bankWrite_same_from hb a v

/-- A write leaves every other offset alone. -/
theorem bankRead_bankWrite_other (b : Bank w) {a a' : Nat} (h : a' ≠ a) (v : BitVec w) :
    bankRead (bankWrite b a v) a' = bankRead b a' := by
  induction b with
  | nil =>
    by_cases hv : v = bankUnlisted w
    · simp [bankWrite, bankRead, hv]
    · simp [bankWrite, bankRead, hv, Ne.symm h]
  | cons e rest ih =>
    obtain ⟨k, x⟩ := e
    rw [bankWrite]
    split
    · split
      · rfl
      · rw [bankRead, if_neg (Ne.symm h)]
    · split
      · next hak =>
        subst hak
        split
        · rw [bankRead, if_neg (Ne.symm h)]
        · rw [bankRead, if_neg (Ne.symm h), bankRead, if_neg (Ne.symm h)]
      · rw [bankRead, bankRead, ih]

/-- Every offset outside a written range reads as before. -/
theorem bankRead_bankWriteRange_out (b : Bank w) (a : Nat) (vs : List (BitVec w)) {a' : Nat}
    (h : a' < a ∨ a + vs.length ≤ a') : bankRead (bankWriteRange b a vs) a' = bankRead b a' := by
  induction vs generalizing b a with
  | nil => rfl
  | cons v vs ih =>
    simp only [List.length_cons] at h
    rw [bankWriteRange, ih _ _ (by omega), bankRead_bankWrite_other _ (by omega)]

/-- Every offset inside a written range reads as the value written there. -/
theorem bankRead_bankWriteRange_in {b : Bank w} (hb : bankWf b = true) (a : Nat) (vs : List (BitVec w)) {i : Nat}
    (h : i < vs.length) : bankRead (bankWriteRange b a vs) (a + i) = vs[i] := by
  induction vs generalizing b a i with
  | nil => exact absurd h (Nat.not_lt_zero i)
  | cons v vs ih =>
    cases i with
    | zero =>
      rw [bankWriteRange, bankRead_bankWriteRange_out _ _ _ (by omega), Nat.add_zero, bankRead_bankWrite_same hb]
      rfl
    | succ j =>
      rw [bankWriteRange, show a + (j + 1) = (a + 1) + j by omega, ih (bankWf_bankWrite hb a v) (a + 1) (by simpa using h)]
      rfl

/-! ## The capacity bound -/

theorem bankBelow_bankWrite {cap : Nat} {b : Bank w} (hb : bankBelow cap b = true) {a : Nat} (ha : a < cap)
    (v : BitVec w) : bankBelow cap (bankWrite b a v) = true := by
  induction b with
  | nil => by_cases hv : v = bankUnlisted w <;> simp [bankWrite, bankBelow, hv, ha]
  | cons e rest ih =>
    obtain ⟨k, x⟩ := e
    have hk : k < cap ∧ bankBelow cap rest = true := by simpa [bankBelow] using hb
    have hcons : ∀ (k' : Nat) (x' : BitVec w) (r : Bank w), k' < cap → bankBelow cap r = true →
        bankBelow cap ((k', x') :: r) = true := by
      intro k' x' r h1 h2; simp only [bankBelow, List.all_cons, Bool.and_eq_true, decide_eq_true_eq]; exact ⟨h1, h2⟩
    rw [bankWrite]
    split
    · split
      · exact hb
      · exact hcons _ _ _ ha hb
    · split
      · split
        · exact hk.2
        · exact hcons _ _ _ ha hk.2
      · exact hcons _ _ _ hk.1 (ih hk.2)

theorem bankBelow_bankWriteRange {cap : Nat} {b : Bank w} (hb : bankBelow cap b = true) (a : Nat)
    (vs : List (BitVec w)) (h : a + vs.length ≤ cap) : bankBelow cap (bankWriteRange b a vs) = true := by
  induction vs generalizing b a with
  | nil => exact hb
  | cons v vs ih =>
    simp only [List.length_cons] at h
    exact ih (bankBelow_bankWrite hb (by omega) v) (a + 1) (by omega)

/-! ## Ranges -/

@[simp] theorem bankReadRange_length (b : Bank w) (a n : Nat) : (bankReadRange b a n).length = n := by
  simp [bankReadRange]

theorem bankReadRange_getD (b : Bank w) (a n i : Nat) (d : BitVec w) :
    (bankReadRange b a n).getD i d = if i < n then bankRead b (a + i) else d := by
  by_cases h : i < n <;> simp [bankReadRange, List.getD, h]

/-! ## The store -/

/-- Replacing a bit bank by a canonical one keeps the store canonical. -/
theorem memoryWf_setBitBank {s : State} (h : s.mem.wf = true) (b : BitBank) {v : Bank 1} (hv : bankWf v = true) :
    (setBitBank b v s).mem.wf = true := by
  cases b <;> simp_all [setBitBank, Memory.wf]

/-- Replacing a register bank by a canonical one keeps the store canonical. -/
theorem memoryWf_setRegBank {s : State} (h : s.mem.wf = true) (b : RegBank) {v : Bank 16} (hv : bankWf v = true) :
    (setRegBank b v s).mem.wf = true := by
  cases b <;> simp_all [setRegBank, Memory.wf]

theorem bankWf_bitBank {s : State} (h : s.mem.wf = true) (b : BitBank) : bankWf (bitBank s b) = true := by
  cases b <;> simp_all [bitBank, Memory.wf]

theorem bankWf_regBank {s : State} (h : s.mem.wf = true) (b : RegBank) : bankWf (regBank s b) = true := by
  cases b <;> simp_all [regBank, Memory.wf]

/-- `SetBits` keeps the canonical form (R141). -/
theorem bankWf_of_setBits {b b' : Bank 1} {cap a n : Nat} {data : List Byte} (hb : bankWf b = true)
    (h : setBits b cap a n data = .ok b') : bankWf b' = true := by
  unfold setBits at h
  split at h
  · cases h
  · cases h; exact bankWf_bankWriteRange hb _ _

/-- `SetRegisters` keeps the canonical form (R143). -/
theorem bankWf_of_setRegisters {b b' : Bank 16} {cap a n : Nat} {data : List Byte} (hb : bankWf b = true)
    (h : setRegisters b cap a n data = .ok b') : bankWf b' = true := by
  unfold setRegisters at h
  split at h
  · cases h
  · cases h; exact bankWf_bankWriteRange hb _ _

/-- A host write keeps the canonical form (R146). -/
theorem memoryWf_setUnit {s : State} (h : s.mem.wf = true) (b : BankId) (o : Nat) (v : Word) :
    (setUnit b o v s).mem.wf = true := by
  cases b with
  | bits b => exact memoryWf_setBitBank h b (bankWf_bankWrite (bankWf_bitBank h b) _ _)
  | regs b => exact memoryWf_setRegBank h b (bankWf_bankWrite (bankWf_regBank h b) _ _)

theorem memoryWf_flatWrite {s : State} (h : s.mem.wf = true) (f : Int) (v : Word) : (flatWrite f v s).mem.wf = true := by
  unfold flatWrite
  split
  · exact h
  · exact memoryWf_setUnit h _ _ _

end Sys2Proof.Machine
end

