-- ==== Sys2Proof/Laws/Operands.lean ====
section
/-! SUPPORT. The laws of the operand forms: byte order, packed bits, serialized registers, frames and their CRC. -/

namespace Sys2Proof.Machine

open Sys2Proof

/-! ## Byte order -/

theorem toNat_hi8 (v : Word) : (hi8 v).toNat = v.toNat / 256 := by
  have h := v.isLt
  simp only [hi8, BitVec.extractLsb'_toNat, Nat.shiftRight_eq_div_pow]
  omega

theorem toNat_lo8 (v : Word) : (lo8 v).toNat = v.toNat % 256 := by
  simp [lo8]

theorem toNat_be16 (h l : Byte) : (be16 h l).toNat = h.toNat * 256 + l.toNat := by
  have hh := h.isLt
  have hl := l.isLt
  simp only [be16, BitVec.toNat_ofNat]
  omega

@[simp] theorem be16_hi8_lo8 (v : Word) : be16 (hi8 v) (lo8 v) = v := by
  apply BitVec.eq_of_toNat_eq
  rw [toNat_be16, toNat_hi8, toNat_lo8]
  omega

@[simp] theorem hi8_be16 (h l : Byte) : hi8 (be16 h l) = h := by
  have hl := l.isLt
  apply BitVec.eq_of_toNat_eq
  rw [toNat_hi8, toNat_be16]
  omega

@[simp] theorem lo8_be16 (h l : Byte) : lo8 (be16 h l) = l := by
  have hl := l.isLt
  apply BitVec.eq_of_toNat_eq
  rw [toNat_lo8, toNat_be16]
  omega

/-! ## Packed bits -/

/-- Bit `j` of the byte built from `b` is `b j`. -/
theorem byteOfBits_getLsbD (b : Nat → Bool) {j : Nat} (hj : j < 8) : (byteOfBits b).getLsbD j = b j := by
  have key : ∀ b0 b1 b2 b3 b4 b5 b6 b7 : Bool, ∀ k : Fin 8,
      (byteOfBits fun i => [b0, b1, b2, b3, b4, b5, b6, b7].getD i false).getLsbD k
        = [b0, b1, b2, b3, b4, b5, b6, b7].getD k false := by decide
  have hb : ∀ k, k < 8 → [b 0, b 1, b 2, b 3, b 4, b 5, b 6, b 7].getD k false = b k := by
    intro k hk
    have hcases : k = 0 ∨ k = 1 ∨ k = 2 ∨ k = 3 ∨ k = 4 ∨ k = 5 ∨ k = 6 ∨ k = 7 := by omega
    rcases hcases with rfl | rfl | rfl | rfl | rfl | rfl | rfl | rfl <;> rfl
  have h := key (b 0) (b 1) (b 2) (b 3) (b 4) (b 5) (b 6) (b 7) ⟨j, hj⟩
  rw [hb j hj] at h
  exact h

@[simp] theorem packBits_length (units : List (BitVec 1)) : (packBits units).length = (units.length + 7) / 8 := by
  simp [packBits, bytesForBits]

/-- Bit `i` of a packed array is unit `i`, and zero past the units (R70). -/
theorem packBits_bit (units : List (BitVec 1)) {i : Nat} (hi : i < 8 * (packBits units).length) :
    ((packBits units).getD (i / 8) 0x00#8).getLsbD (i % 8) = (units.getD i 0#1).getLsbD 0 := by
  have hk : i / 8 < bytesForBits units.length := by
    have : (packBits units).length = bytesForBits units.length := by simp [bytesForBits]
    omega
  have hget : (packBits units).getD (i / 8) 0x00#8
      = byteOfBits fun j => (units.getD (8 * (i / 8) + j) 0#1).getLsbD 0 := by
    simp [packBits, List.getD, hk]
  rw [hget, byteOfBits_getLsbD _ (Nat.mod_lt _ (by decide)), Nat.div_add_mod]

@[simp] theorem unpackBits_length (data : List Byte) (n : Nat) : (unpackBits data n).length = n := by simp [unpackBits]

theorem unpackBits_getElem (data : List Byte) (n : Nat) {i : Nat} (h : i < (unpackBits data n).length) :
    (unpackBits data n)[i] = packedBit data i := by simp [unpackBits]

/-! ## Serialized registers -/

@[simp] theorem registersToBytes_length (units : List Word) : (registersToBytes units).length = 2 * units.length := by
  induction units with
  | nil => rfl
  | cons v rest ih =>
    have : registersToBytes (v :: rest) = [hi8 v, lo8 v] ++ registersToBytes rest := rfl
    rw [this, List.length_append, ih]; simp; omega

/-- Bytes `2i` and `2i+1` of serialized registers are register `i`, high byte first (R68). -/
theorem registersToBytes_getD (units : List Word) {i : Nat} (h : i < units.length) :
    (registersToBytes units).getD (2 * i) 0x00#8 = hi8 units[i] ∧
      (registersToBytes units).getD (2 * i + 1) 0x00#8 = lo8 units[i] := by
  induction units generalizing i with
  | nil => exact absurd h (Nat.not_lt_zero i)
  | cons v rest ih =>
    have hc : registersToBytes (v :: rest) = hi8 v :: lo8 v :: registersToBytes rest := rfl
    cases i with
    | zero => rw [hc]; exact ⟨rfl, rfl⟩
    | succ j =>
      rw [hc, show 2 * (j + 1) = 2 * j + 1 + 1 by omega, show 2 * j + 1 + 1 + 1 = (2 * j + 1) + 1 + 1 by omega]
      simpa using ih (by simpa using h)

@[simp] theorem bytesToRegisters_length (data : List Byte) (n : Nat) : (bytesToRegisters data n).length = n := by
  simp [bytesToRegisters]

theorem bytesToRegisters_getElem (data : List Byte) (n : Nat) {i : Nat} (h : i < (bytesToRegisters data n).length) :
    (bytesToRegisters data n)[i] = packedRegister data i := by simp [bytesToRegisters]

/-! ## Frames -/

@[simp] theorem appendCrc_length (body : List Byte) : (appendCrc body).length = body.length + 2 := by
  simp [appendCrc, crcBytes]

/-- `CRC16(s ++ [b])` is `update` applied to `CRC16(s)` (R131). -/
theorem crc16_append (s t : List Byte) : crc16 (s ++ t) = t.foldl crcUpdate (crc16 s) := by
  simp [crc16, List.foldl_append]

/-- Every frame the codec builds, and every encoded request, passes the check on receive (R132, R133). -/
theorem crcOk_appendCrc (body : List Byte) : crcOk (appendCrc body) = true := by
  have h1 : (appendCrc body).length - 2 = body.length := by simp
  simp only [crcOk, h1, decide_eq_true_eq]
  simp [appendCrc]

/-! ## The four bank operations: everything each can answer -/

theorem getBits_cases (b : Bank 1) (cap a n : Nat) :
    (cap < a + n ∧ getBits b cap a n = .error .addressOutOfRange) ∨
      (a + n ≤ cap ∧ getBits b cap a n = .ok (packBits (bankReadRange b a n))) := by
  unfold getBits
  split
  · exact .inl ⟨by omega, rfl⟩
  · exact .inr ⟨by omega, rfl⟩

theorem setBits_cases (b : Bank 1) (cap a n : Nat) (data : List Byte) :
    (cap < a + n ∧ setBits b cap a n data = .error .addressOutOfRange) ∨
      (a + n ≤ cap ∧ setBits b cap a n data = .ok (bankWriteRange b a (unpackBits data n))) := by
  unfold setBits
  split
  · exact .inl ⟨by omega, rfl⟩
  · exact .inr ⟨by omega, rfl⟩

theorem getRegisters_cases (b : Bank 16) (cap a n : Nat) :
    (cap < a + n ∧ getRegisters b cap a n = .error .addressOutOfRange) ∨
      (a + n ≤ cap ∧ getRegisters b cap a n = .ok (registersToBytes (bankReadRange b a n))) := by
  unfold getRegisters
  split
  · exact .inl ⟨by omega, rfl⟩
  · exact .inr ⟨by omega, rfl⟩

theorem setRegisters_cases (b : Bank 16) (cap a n : Nat) (data : List Byte) :
    (cap < a + n ∧ setRegisters b cap a n data = .error .addressOutOfRange) ∨
      (a + n ≤ cap ∧ setRegisters b cap a n data = .ok (bankWriteRange b a (bytesToRegisters data n))) := by
  unfold setRegisters
  split
  · exact .inl ⟨by omega, rfl⟩
  · exact .inr ⟨by omega, rfl⟩

end Sys2Proof.Machine
end

