-- ==== Sys2Proof/Laws/Decode.lean ====
section
/-! SUPPORT. The small laws of the decoder and the encoder. -/

namespace Sys2Proof

open Sys2Proof.Machine

/-- The function-code map reads back every wire byte (R94). -/
@[simp] theorem functionOfByte_functionByte (f : FunctionCode) : functionOfByte (functionByte f) = some f := by
  cases f <;> rfl

/-- A byte the map takes is the wire byte of what it gives (R94). -/
theorem functionByte_of_functionOfByte {b : Byte} {f : FunctionCode} (h : functionOfByte b = some f) :
    functionByte f = b := by
  unfold functionOfByte at h
  split at h <;> first
    | (rename_i hb; cases h; exact BitVec.eq_of_toNat_eq (by rw [hb]; rfl))
    | cases h

/-- A format Q4 tail reads back two fields. -/
@[simp] theorem takeQ4_fields (a b : Word) (x y : Byte) (tail : List Byte) :
    takeQ4 (hi8 a :: lo8 a :: hi8 b :: lo8 b :: x :: y :: tail) = .ok (a, b, tail) := by
  simp [takeQ4]

/-- A format QV tail reads back its fields when the byte-count is the number of data bytes. -/
theorem takeQV_fields (a n : Word) (bc : Byte) (data : List Byte) (h : data.length = bc.toNat) (x y : Byte)
    (tail : List Byte) :
    takeQV (hi8 a :: lo8 a :: hi8 n :: lo8 n :: bc :: (data ++ x :: y :: tail))
      = .ok { address := a, count := n, byteCount := bc, data := data, tail := tail } := by
  have h1 : ¬ (data ++ x :: y :: tail).length < bc.toNat + 2 := by simp [h]
  have h2 : (data ++ x :: y :: tail).drop (bc.toNat + 2) = tail := by
    rw [← h, ← List.drop_drop, List.drop_left]; rfl
  have h3 : (data ++ x :: y :: tail).take bc.toNat = data := by rw [← h, List.take_left]
  simp only [takeQV]
  rw [if_neg h1, h2, h3]
  simp

/-- A sub-function without a row of its own is `DIAG.OTHER` (R97, R233). -/
theorem decodeDiag_other {sub : Word} (h : sub ∉ diagSubFunctions) (id : Byte) (data : Word) :
    decodeDiag id sub data = .diagOther id sub data := by
  have hne : ∀ n : Nat, BitVec.ofNat 16 n ∈ diagSubFunctions → n < 65536 → sub.toNat ≠ n := by
    intro n hn hlt he
    apply h
    rw [← he, BitVec.ofNat_toNat, BitVec.setWidth_eq] at hn
    exact hn
  have h0 := hne 0 (by decide) (by decide)
  have h1 := hne 1 (by decide) (by decide)
  have h2 := hne 2 (by decide) (by decide)
  have h4 := hne 4 (by decide) (by decide)
  have h10 := hne 10 (by decide) (by decide)
  have h11 := hne 11 (by decide) (by decide)
  have h12 := hne 12 (by decide) (by decide)
  have h13 := hne 13 (by decide) (by decide)
  have h14 := hne 14 (by decide) (by decide)
  have h15 := hne 15 (by decide) (by decide)
  have h17 := hne 17 (by decide) (by decide)
  have h18 := hne 18 (by decide) (by decide)
  unfold decodeDiag
  split <;> first | contradiction | rfl

end Sys2Proof
end

