-- ==== Sys2Proof/Laws/Transaction.lean ====
section
/-! SUPPORT. What the shared operations of a transaction can do: pre-dispatch counting, transmission and the end of a
transaction, the commit of each outcome, and the transaction as a whole. -/

namespace Sys2Proof.Machine

open Sys2Proof

/-! ## Pre-dispatch counting (R286) -/

@[simp] theorem preDispatch_messageCount (s : State) : (preDispatch s).messageCount = s.messageCount + 1 := by
  unfold preDispatch; split <;> rfl

@[simp] theorem preDispatch_noResponseCount (s : State) : (preDispatch s).noResponseCount = noResponseAfter s := by
  unfold preDispatch noResponseAfter; split <;> rfl

@[simp] theorem preDispatch_mem (s : State) : (preDispatch s).mem = s.mem := by
  unfold preDispatch; split <;> rfl

@[simp] theorem preDispatch_rxBuf (s : State) : (preDispatch s).rxBuf = s.rxBuf := by
  unfold preDispatch; split <;> rfl

@[simp] theorem preDispatch_txBuf (s : State) : (preDispatch s).txBuf = s.txBuf := by
  unfold preDispatch; split <;> rfl

@[simp] theorem preDispatch_rxState (s : State) : (preDispatch s).rxState = s.rxState := by
  unfold preDispatch; split <;> rfl

@[simp] theorem preDispatch_rxLen (s : State) : (preDispatch s).rxLen = s.rxLen := by
  unfold preDispatch; split <;> rfl

@[simp] theorem preDispatch_rxNeed (s : State) : (preDispatch s).rxNeed = s.rxNeed := by
  unfold preDispatch; split <;> rfl

@[simp] theorem preDispatch_runStatus (s : State) : (preDispatch s).runStatus = s.runStatus := by
  unfold preDispatch; split <;> rfl

@[simp] theorem preDispatch_listenOnly (s : State) : (preDispatch s).listenOnly = s.listenOnly := by
  unfold preDispatch; split <;> rfl

@[simp] theorem preDispatch_eventCount (s : State) : (preDispatch s).eventCount = s.eventCount := by
  unfold preDispatch; split <;> rfl

@[simp] theorem preDispatch_crcErrorCount (s : State) : (preDispatch s).crcErrorCount = s.crcErrorCount := by
  unfold preDispatch; split <;> rfl

@[simp] theorem preDispatch_diagnosticRegister (s : State) : (preDispatch s).diagnosticRegister = s.diagnosticRegister := by
  unfold preDispatch; split <;> rfl

@[simp] theorem preDispatch_exceptionErrorCount (s : State) : (preDispatch s).exceptionErrorCount = s.exceptionErrorCount := by
  unfold preDispatch; split <;> rfl

@[simp] theorem preDispatch_t0 (s : State) : (preDispatch s).t0 = s.t0 := by
  unfold preDispatch; split <;> rfl

@[simp] theorem preDispatch_tick (s : State) : (preDispatch s).tick = s.tick := by
  unfold preDispatch; split <;> rfl

@[simp] theorem preDispatch_cfg (s : State) : (preDispatch s).cfg = s.cfg := by
  unfold preDispatch; split <;> rfl

@[simp] theorem preDispatch_inputs (s : State) : (preDispatch s).inputs = s.inputs := by
  unfold preDispatch; split <;> rfl

@[simp] theorem preDispatch_txAnswers (s : State) : (preDispatch s).txAnswers = s.txAnswers := by
  unfold preDispatch; split <;> rfl

@[simp] theorem preDispatch_cancelPending (s : State) : (preDispatch s).cancelPending = s.cancelPending := by
  unfold preDispatch; split <;> rfl

@[simp] theorem preDispatch_line (s : State) : (preDispatch s).line = s.line := by
  unfold preDispatch; split <;> rfl

@[simp] theorem preDispatch_hostReads (s : State) : (preDispatch s).hostReads = s.hostReads := by
  unfold preDispatch; split <;> rfl

@[simp] theorem preDispatch_freeCount (s : State) : (preDispatch s).freeCount = s.freeCount := by
  unfold preDispatch; split <;> rfl

/-! ## Transmission and what follows it (R289, R290, R297): everything a transmission keeps -/

@[simp] theorem finish_send_mem (lo : Bool) (frame : List Byte) (s : State) :
    (finish (send lo frame s)).mem = s.mem := by
  unfold finish send transmit; repeat' split
  all_goals rfl

@[simp] theorem finish_send_rxBuf (lo : Bool) (frame : List Byte) (s : State) :
    (finish (send lo frame s)).rxBuf = s.rxBuf := by
  unfold finish send transmit; repeat' split
  all_goals rfl

@[simp] theorem finish_send_rxNeed (lo : Bool) (frame : List Byte) (s : State) :
    (finish (send lo frame s)).rxNeed = s.rxNeed := by
  unfold finish send transmit; repeat' split
  all_goals rfl

@[simp] theorem finish_send_listenOnly (lo : Bool) (frame : List Byte) (s : State) :
    (finish (send lo frame s)).listenOnly = s.listenOnly := by
  unfold finish send transmit; repeat' split
  all_goals rfl

@[simp] theorem finish_send_messageCount (lo : Bool) (frame : List Byte) (s : State) :
    (finish (send lo frame s)).messageCount = s.messageCount := by
  unfold finish send transmit; repeat' split
  all_goals rfl

@[simp] theorem finish_send_eventCount (lo : Bool) (frame : List Byte) (s : State) :
    (finish (send lo frame s)).eventCount = s.eventCount := by
  unfold finish send transmit; repeat' split
  all_goals rfl

@[simp] theorem finish_send_crcErrorCount (lo : Bool) (frame : List Byte) (s : State) :
    (finish (send lo frame s)).crcErrorCount = s.crcErrorCount := by
  unfold finish send transmit; repeat' split
  all_goals rfl

@[simp] theorem finish_send_diagnosticRegister (lo : Bool) (frame : List Byte) (s : State) :
    (finish (send lo frame s)).diagnosticRegister = s.diagnosticRegister := by
  unfold finish send transmit; repeat' split
  all_goals rfl

@[simp] theorem finish_send_exceptionErrorCount (lo : Bool) (frame : List Byte) (s : State) :
    (finish (send lo frame s)).exceptionErrorCount = s.exceptionErrorCount := by
  unfold finish send transmit; repeat' split
  all_goals rfl

@[simp] theorem finish_send_noResponseCount (lo : Bool) (frame : List Byte) (s : State) :
    (finish (send lo frame s)).noResponseCount = s.noResponseCount := by
  unfold finish send transmit; repeat' split
  all_goals rfl

@[simp] theorem finish_send_tick (lo : Bool) (frame : List Byte) (s : State) :
    (finish (send lo frame s)).tick = s.tick := by
  unfold finish send transmit; repeat' split
  all_goals rfl

@[simp] theorem finish_send_cfg (lo : Bool) (frame : List Byte) (s : State) :
    (finish (send lo frame s)).cfg = s.cfg := by
  unfold finish send transmit; repeat' split
  all_goals rfl

@[simp] theorem finish_send_inputs (lo : Bool) (frame : List Byte) (s : State) :
    (finish (send lo frame s)).inputs = s.inputs := by
  unfold finish send transmit; repeat' split
  all_goals rfl

@[simp] theorem finish_send_cancelPending (lo : Bool) (frame : List Byte) (s : State) :
    (finish (send lo frame s)).cancelPending = s.cancelPending := by
  unfold finish send transmit; repeat' split
  all_goals rfl

@[simp] theorem finish_send_hostReads (lo : Bool) (frame : List Byte) (s : State) :
    (finish (send lo frame s)).hostReads = s.hostReads := by
  unfold finish send transmit; repeat' split
  all_goals rfl

/-- In listen-only mode nothing leaves and the receiver rests (R289). -/
theorem finish_send_silent (frame : List Byte) (s : State) : Silent s (finish (send true frame s)) := by
  unfold Silent Rests send finish
  cases h : s.cfg.silenceWaitEn <;> simp [h, restState]

/-- In normal mode the frame is handed to `put_bytes` (R40, R289, R290). -/
theorem finish_send_delivered (frame : List Byte) (s : State) : Delivered frame s (finish (send false frame s)) := by
  have ht : transmit frame (settleTxBuf s) = match s.txAnswers with
      | [] => (putOnLine frame [] (settleTxBuf s), true)
      | .ok :: rest => (putOnLine frame rest (settleTxBuf s), true)
      | .fail written :: rest => (putOnLine (frame.take written) rest (settleTxBuf s), false) := rfl
  have hsend : send false frame s = transmit frame (settleTxBuf s) := rfl
  rw [hsend, ht]
  unfold Delivered Rests finish
  rcases ha : s.txAnswers with _ | ⟨_ | n, rest⟩ <;> cases h : s.cfg.silenceWaitEn <;> simp [h, restState]

/-- What the line saw depends on these fields of the state before alone. -/
theorem Silent.congr {s s' t : State} (h : Silent s' t) (hline : s'.line = s.line) (hans : s'.txAnswers = s.txAnswers)
    (hrun : s'.runStatus = s.runStatus) (hcfg : s'.cfg = s.cfg) (htick : s'.tick = s.tick) (ht0 : s'.t0 = s.t0) :
    Silent s t := by
  unfold Silent Rests at *
  rw [← hline, ← hans, ← hrun, ← hcfg, ← htick, ← ht0]; exact h

theorem Delivered.congr {frame : List Byte} {s s' t : State} (h : Delivered frame s' t) (hline : s'.line = s.line)
    (hans : s'.txAnswers = s.txAnswers) (hrun : s'.runStatus = s.runStatus) (hcfg : s'.cfg = s.cfg)
    (htick : s'.tick = s.tick) (ht0 : s'.t0 = s.t0) : Delivered frame s t := by
  unfold Delivered Rests at *
  rw [← hline, ← hans, ← hrun, ← hcfg, ← htick, ← ht0]; exact h

/-- `Answered` with the gate latched in a state that agrees with `s` on what the line's view depends on. -/
theorem finish_send_answered {frame : List Byte} {s s' : State} (hline : s'.line = s.line)
    (hans : s'.txAnswers = s.txAnswers) (hrun : s'.runStatus = s.runStatus) (hcfg : s'.cfg = s.cfg)
    (htick : s'.tick = s.tick) (ht0 : s'.t0 = s.t0) :
    Answered frame s (finish (send s.listenOnly frame s')) := by
  unfold Answered
  cases s.listenOnly
  · exact (finish_send_delivered frame s').congr hline hans hrun hcfg htick ht0
  · exact (finish_send_silent frame s').congr hline hans hrun hcfg htick ht0

/-- The end of a transaction that transmits nothing: the receiver rests (R297 step 6). -/
theorem endTransaction_silent (s : State) : Silent s (endTransaction s) := by
  unfold Silent Rests
  cases h : s.cfg.silenceWaitEn <;> simp [h, restState]

/-! ## The transaction (R297) -/

/-- Everything a transaction can do: it drops the frame, or its handler runs and ends in one of three outcomes. -/
theorem transaction_cases (h : Header) (handler : State → HandlerResult) (s : State) :
    (handlerRuns h s.listenOnly = false ∧ transaction h handler s = endTransaction (preDispatch s)) ∨
      (handlerRuns h s.listenOnly = true ∧
        ((∃ s2 payload cleared, handler (preDispatch s) = .reply s2 payload cleared ∧
            transaction h handler s = commitReply h payload cleared s.listenOnly s2) ∨
          (∃ k, handler (preDispatch s) = .exception k ∧
            transaction h handler s = takeException h k s.listenOnly (preDispatch s)) ∨
          (∃ s2, handler (preDispatch s) = .noReply s2 ∧ transaction h handler s = endTransaction s2))) := by
  unfold transaction
  simp only [preDispatch_listenOnly]
  cases hr : handlerRuns h s.listenOnly with
  | false => exact .inl ⟨rfl, by simp⟩
  | true =>
    refine .inr ⟨rfl, ?_⟩
    cases hh : handler (preDispatch s) with
    | reply s2 payload cleared => exact .inl ⟨s2, payload, cleared, rfl, by simp⟩
    | exception k => exact .inr (.inl ⟨k, rfl, by simp⟩)
    | noReply s2 => exact .inr (.inr ⟨s2, rfl, by simp⟩)

/-- Function 08 always runs; the others run in normal mode (R287). -/
theorem handlerRuns_eq (h : Header) (lo : Bool) : handlerRuns h lo = (!lo || decide (h.function = .f08)) := rfl

theorem transaction_dropped {h : Header} {handler : State → HandlerResult} {s : State}
    (hr : handlerRuns h s.listenOnly = false) : transaction h handler s = endTransaction (preDispatch s) := by
  rcases transaction_cases h handler s with ⟨_, h2⟩ | ⟨h1, _⟩
  · exact h2
  · rw [hr] at h1; cases h1

theorem transaction_reply {h : Header} {handler : State → HandlerResult} {s s2 : State} {payload : List Byte}
    {cleared : Bool} (hr : handlerRuns h s.listenOnly = true)
    (hh : handler (preDispatch s) = .reply s2 payload cleared) :
    transaction h handler s = commitReply h payload cleared s.listenOnly s2 := by
  unfold transaction; simp [hr, hh]

theorem transaction_exception {h : Header} {handler : State → HandlerResult} {s : State} {k : WireException}
    (hr : handlerRuns h s.listenOnly = true) (hh : handler (preDispatch s) = .exception k) :
    transaction h handler s = takeException h k s.listenOnly (preDispatch s) := by
  unfold transaction; simp [hr, hh]

theorem transaction_noReply {h : Header} {handler : State → HandlerResult} {s s2 : State}
    (hr : handlerRuns h s.listenOnly = true) (hh : handler (preDispatch s) = .noReply s2) :
    transaction h handler s = endTransaction s2 := by
  unfold transaction; simp [hr, hh]

end Sys2Proof.Machine
end

