-- ==== Sys2Proof/Laws/Receiver.lean ====
section
/-! SUPPORT. The laws of the receiver: the receive buffer, and everything one step can do. -/

namespace Sys2Proof.Machine

open Sys2Proof

/-! ## The receive buffer (R22) -/

@[simp] theorem rxBuf_toList_length (b : Buffer) : b.toList.length = bufSize := by simp

theorem toList_setIfInBounds (b : Buffer) (i : Nat) (v : Byte) : (b.setIfInBounds i v).toList = b.toList.set i v := by
  apply List.ext_getElem
  · simp
  · intro j h1 h2
    simp [List.getElem_set]

/-- A byte stored at an index below `BUF_SIZE` reads back. -/
theorem rxAt_rxAppend_same {s : State} (h : s.rxLen < bufSize) (b : Byte) : rxAt (rxAppend b s) s.rxLen = b := by
  simp only [rxAt, rxAppend_rxBuf, toList_setIfInBounds]
  rw [List.getD_eq_getElem?_getD, List.getElem?_set_self (by simpa using h)]
  rfl

/-- Storing a byte leaves the others alone. -/
theorem rxAt_rxAppend_other (s : State) (b : Byte) {i : Nat} (h : i ≠ s.rxLen) : rxAt (rxAppend b s) i = rxAt s i := by
  simp only [rxAt, rxAppend_rxBuf, toList_setIfInBounds]
  rw [List.getD_eq_getElem?_getD, List.getD_eq_getElem?_getD, List.getElem?_set_ne (Ne.symm h)]

/-- Storing a byte appends it to the frame. -/
theorem rxFrame_rxAppend {s : State} (h : s.rxLen < bufSize) (b : Byte) : rxFrame (rxAppend b s) = rxFrame s ++ [b] := by
  simp only [rxFrame, rxAppend_rxBuf, rxAppend_rxLen, toList_setIfInBounds]
  rw [List.take_add_one, List.take_set_of_le (Nat.le_refl _), List.getElem?_set_self (by simpa using h)]
  rfl

/-- What the receive buffer's bytes are depends on `rxBuf` alone, the frame on `rxBuf` and `rxLen`. -/
theorem rxAt_congr {s t : State} (h : t.rxBuf = s.rxBuf) (i : Nat) : rxAt t i = rxAt s i := by simp [rxAt, h]

theorem rxFrame_congr {s t : State} (h : t.rxBuf = s.rxBuf) (hl : t.rxLen = s.rxLen) : rxFrame t = rxFrame s := by
  simp [rxFrame, h, hl]

theorem readsVariablePart_congr {s t : State} (h : t.rxBuf = s.rxBuf) : readsVariablePart t = readsVariablePart s := by
  simp [readsVariablePart, rxAt_congr h]

/-! ## Polls (R43) -/

/-- At the tick at which a wait began no time has elapsed. -/
theorem elapsed_of_t0_eq {s : State} (h : s.t0 = s.tick) : elapsed s = 0 := by simp [elapsed, h]

/-- A poll before an interval has elapsed changes nothing. -/
theorem noDataStep_early {s : State} (hn : elapsed s < s.cfg.tNocomm.val) (hq : elapsed s < s.cfg.tQuiet.val) :
    noDataStep s = .next s := by
  unfold noDataStep
  split <;> first | rfl | exact if_neg (by omega)

/-! ## The step -/

/-- Everything a step can be: the pending cancel is taken, the machine waits, or it takes the next input. -/
theorem step_cases (s : State) :
    (cancelCheckFires s = true ∧ step s = .next (completeRun s)) ∨
      (cancelCheckFires s = false ∧ s.inputs = [] ∧ step s = .next s) ∨
      (cancelCheckFires s = false ∧ ∃ x rest, s.inputs = x :: rest ∧ step s = inputStep x { s with inputs := rest }) := by
  unfold step machineStep
  cases hc : cancelCheckFires s with
  | true => exact .inl ⟨rfl, by simp⟩
  | false =>
    cases hi : s.inputs with
    | nil => exact .inr (.inl ⟨rfl, rfl, by simp⟩)
    | cons x rest => exact .inr (.inr ⟨rfl, x, rest, rfl, by simp⟩)

/-- The cancellation check needs `AwaitID`. -/
theorem cancelCheckFires_of_ne {s : State} (h : s.rxState ≠ .awaitId) : cancelCheckFires s = false := by
  simp [cancelCheckFires, h]

/-- A session event of a running engine is the event's own step. -/
theorem step_session {s : State} {e : Event} {rest : List Input} (hc : cancelCheckFires s = false)
    (hi : s.inputs = .session e :: rest) (hr : s.runStatus = .running) :
    step s = sessionEvent e { s with inputs := rest } := by
  unfold step machineStep
  simp [hc, hi, inputStep, sessionStep, hr]

/-- A byte in a reading state: a fault for contents no rule reaches, the next byte is awaited, or the part is complete. -/
theorem readingByte_cases (b : Byte) (done : State → Host.Outcome State Fault Refusal) (s : State) :
    (s.rxNeed = 0 ∧ readingByte b done s = .fault .sequencerCorrupt) ∨
      (s.rxNeed ≠ 0 ∧ bufSize ≤ s.rxLen ∧ readingByte b done s = .fault .bufferOverrun) ∨
      (1 < s.rxNeed ∧ s.rxLen < bufSize ∧
        readingByte b done s = .next (startWait { rxAppend b s with rxNeed := s.rxNeed - 1 })) ∨
      (s.rxNeed = 1 ∧ s.rxLen < bufSize ∧ readingByte b done s = done { rxAppend b s with rxNeed := 0 }) := by
  unfold readingByte
  by_cases h0 : s.rxNeed = 0
  · exact .inl ⟨h0, by simp [h0]⟩
  · by_cases hl : s.rxLen < bufSize
    · by_cases h1 : s.rxNeed = 1
      · exact .inr (.inr (.inr ⟨h1, hl, by simp [h1, hl]⟩))
      · refine .inr (.inr (.inl ⟨by omega, hl, ?_⟩))
        have h2 : s.rxNeed - 1 ≠ 0 := by omega
        simp [h0, hl, h2]
    · exact .inr (.inl ⟨h0, by omega, by simp [h0, hl]⟩)

end Sys2Proof.Machine
end

