-- ==== Sys2Proof/Laws/Invariant.lean ====
section
/-! SUPPORT. The parts of the invariant (Safety.lean) as propositions, one lemma per part and, for the sequencing
registers, one per receiver state. -/

namespace Sys2Proof.Machine

open Sys2Proof

theorem storeOk_iff (s : State) : storeOk s = true ↔ s.mem.wf = true ∧ bankBelow s.cfg.capCoils s.mem.coils = true
    ∧ bankBelow s.cfg.capDI s.mem.discreteInputs = true ∧ bankBelow s.cfg.capIR s.mem.inputRegisters = true
    ∧ bankBelow s.cfg.capHR s.mem.holdingRegisters = true := by
  simp [storeOk, and_assoc]

theorem runStatusOk_iff (s : State) : runStatusOk s = true ↔ s.runStatus = .running ∨ s.rxState = .awaitId := by
  simp [runStatusOk]

theorem timersOk_iff (s : State) : timersOk s = true ↔ s.tick < 2 ^ s.cfg.tickW ∧ s.t0 < 2 ^ s.cfg.tickW := by
  simp [timersOk]

theorem sequencerOk_awaitId {s : State} (h : s.rxState = .awaitId) :
    sequencerOk s = true ↔ s.rxLen = 0 ∧ s.rxNeed = 0 := by
  simp [sequencerOk, h]

theorem sequencerOk_awaitFunction {s : State} (h : s.rxState = .awaitFunction) :
    sequencerOk s = true ↔ s.rxLen = 1 ∧ s.rxNeed = 0 ∧ rxAt s 0 = s.cfg.slaveId := by
  simp [sequencerOk, h, and_assoc]

theorem sequencerOk_readFixedFields {s : State} (h : s.rxState = .readFixedFields) :
    sequencerOk s = true ↔ rxAt s 0 = s.cfg.slaveId ∧ 2 ≤ s.rxLen ∧ 1 ≤ s.rxNeed
      ∧ ∃ f, functionOfByte (rxAt s 1) = some f ∧ s.rxLen + s.rxNeed = 2 + fixedLen f := by
  cases hf : functionOfByte (rxAt s 1) <;> simp [sequencerOk, h, hf, and_assoc]

theorem sequencerOk_readVariableFields {s : State} (h : s.rxState = .readVariableFields) :
    sequencerOk s = true ↔ rxAt s 0 = s.cfg.slaveId ∧ 7 ≤ s.rxLen ∧ 1 ≤ s.rxNeed ∧ readsVariablePart s = true
      ∧ s.rxLen + s.rxNeed = 9 + (rxAt s 6).toNat := by
  simp [sequencerOk, h, and_assoc]

theorem sequencerOk_silenceWait {s : State} (h : s.rxState = .silenceWait) :
    sequencerOk s = true ↔ s.rxLen = 0 ∧ s.rxNeed = 0 ∧ s.cfg.silenceWaitEn = true := by
  simp [sequencerOk, h, and_assoc]

end Sys2Proof.Machine
end

