-- ==== Sys2Proof/Laws/PerInstr.lean ====
section
/-! SUPPORT. Facts about every instruction, one lemma per constructor. -/

namespace Sys2Proof.Laws.FrameLength

open Sys2Proof Sys2Proof.Machine

/-- The length of an instruction's frame is the one the receiver's tables give (R92, R95, R96): `FIXED_LEN` bytes after
the function code, and for functions 15 and 16 the byte-count plus two more. -/
def Statement (i : Instr) : Prop :=
  i.wf = true → (encode i).length
    = 2 + fixedLen (instrFunction i) + (if hasVariablePart (instrFunction i) = true then (encode i).getD 6 0x00#8 |>.toNat else 0)
      + (if hasVariablePart (instrFunction i) = true then 2 else 0)

theorem rdcoil (id : Byte) (field1 field2 : Word) : Statement (.rdcoil id field1 field2) := by
  intro _; simp [encode, encodeBody, bodyQ4, instrFunction, fixedLen, hasVariablePart]

theorem rddi (id : Byte) (field1 field2 : Word) : Statement (.rddi id field1 field2) := by
  intro _; simp [encode, encodeBody, bodyQ4, instrFunction, fixedLen, hasVariablePart]

theorem rdhr (id : Byte) (field1 field2 : Word) : Statement (.rdhr id field1 field2) := by
  intro _; simp [encode, encodeBody, bodyQ4, instrFunction, fixedLen, hasVariablePart]

theorem rdir (id : Byte) (field1 field2 : Word) : Statement (.rdir id field1 field2) := by
  intro _; simp [encode, encodeBody, bodyQ4, instrFunction, fixedLen, hasVariablePart]

theorem wrcoil (id : Byte) (field1 field2 : Word) : Statement (.wrcoil id field1 field2) := by
  intro _; simp [encode, encodeBody, bodyQ4, instrFunction, fixedLen, hasVariablePart]

theorem wrhr (id : Byte) (field1 field2 : Word) : Statement (.wrhr id field1 field2) := by
  intro _; simp [encode, encodeBody, bodyQ4, instrFunction, fixedLen, hasVariablePart]

theorem diagEcho (id : Byte) (data : Word) : Statement (.diagEcho id data) := by
  intro _; simp [encode, encodeBody, bodyQ4, instrFunction, fixedLen, hasVariablePart]

theorem diagRestart (id : Byte) (data : Word) : Statement (.diagRestart id data) := by
  intro _; simp [encode, encodeBody, bodyQ4, instrFunction, fixedLen, hasVariablePart]

theorem diagRdreg (id : Byte) (data : Word) : Statement (.diagRdreg id data) := by
  intro _; simp [encode, encodeBody, bodyQ4, instrFunction, fixedLen, hasVariablePart]

theorem diagListen (id : Byte) (data : Word) : Statement (.diagListen id data) := by
  intro _; simp [encode, encodeBody, bodyQ4, instrFunction, fixedLen, hasVariablePart]

theorem diagClear (id : Byte) (data : Word) : Statement (.diagClear id data) := by
  intro _; simp [encode, encodeBody, bodyQ4, instrFunction, fixedLen, hasVariablePart]

theorem diagMsg11 (id : Byte) (data : Word) : Statement (.diagMsg11 id data) := by
  intro _; simp [encode, encodeBody, bodyQ4, instrFunction, fixedLen, hasVariablePart]

theorem diagCrc12 (id : Byte) (data : Word) : Statement (.diagCrc12 id data) := by
  intro _; simp [encode, encodeBody, bodyQ4, instrFunction, fixedLen, hasVariablePart]

theorem diagExc13 (id : Byte) (data : Word) : Statement (.diagExc13 id data) := by
  intro _; simp [encode, encodeBody, bodyQ4, instrFunction, fixedLen, hasVariablePart]

theorem diagMsg14 (id : Byte) (data : Word) : Statement (.diagMsg14 id data) := by
  intro _; simp [encode, encodeBody, bodyQ4, instrFunction, fixedLen, hasVariablePart]

theorem diagNoresp15 (id : Byte) (data : Word) : Statement (.diagNoresp15 id data) := by
  intro _; simp [encode, encodeBody, bodyQ4, instrFunction, fixedLen, hasVariablePart]

theorem diagExc17 (id : Byte) (data : Word) : Statement (.diagExc17 id data) := by
  intro _; simp [encode, encodeBody, bodyQ4, instrFunction, fixedLen, hasVariablePart]

theorem diagZero18 (id : Byte) (data : Word) : Statement (.diagZero18 id data) := by
  intro _; simp [encode, encodeBody, bodyQ4, instrFunction, fixedLen, hasVariablePart]

theorem diagOther (id : Byte) (sub data : Word) : Statement (.diagOther id sub data) := by
  intro _; simp [encode, encodeBody, bodyQ4, instrFunction, fixedLen, hasVariablePart]

theorem evcnt (id : Byte) : Statement (.evcnt id) := by
  intro _; simp [encode, encodeBody, instrFunction, fixedLen, hasVariablePart]

theorem evlog (id : Byte) : Statement (.evlog id) := by
  intro _; simp [encode, encodeBody, instrFunction, fixedLen, hasVariablePart]

theorem wrcoils (id : Byte) (address count : Word) (byteCount : Byte) (data : List Byte) :
    Statement (.wrcoils id address count byteCount data) := by
  intro h
  have hd : data.length = byteCount.toNat := by simpa [Instr.wf] using h
  simp [encode, encodeBody, bodyQV, instrFunction, fixedLen, hasVariablePart, hd, appendCrc, crcBytes]
  omega

theorem wrhrs (id : Byte) (address count : Word) (byteCount : Byte) (data : List Byte) :
    Statement (.wrhrs id address count byteCount data) := by
  intro h
  have hd : data.length = byteCount.toNat := by simpa [Instr.wf] using h
  simp [encode, encodeBody, bodyQV, instrFunction, fixedLen, hasVariablePart, hd, appendCrc, crcBytes]
  omega

theorem slvid (id : Byte) : Statement (.slvid id) := by
  intro _; simp [encode, encodeBody, instrFunction, fixedLen, hasVariablePart]

end Sys2Proof.Laws.FrameLength
end

