-- ==== Sys2Proof/Tests/Slice0.lean ====
section
/-! SUPPORT. The model's own tests: ill-formed terms, the decoding of every constructor from a frame written out by
hand, one or two steps per instruction, and for each obligation with hypotheses a state and operands that meet them.
The expected frames and values are those of spec/95_test_vectors.md unless a comment names another file. -/

namespace Sys2Proof.Tests

open Sys2Proof Sys2Proof.Machine

-- One theorem at a time: each kernel evaluation waits for the one before it, and every waiting one holds a thread.
set_option Elab.async false

/-! ## Helpers -/

/-- The next state of an outcome, or the state given. -/
def nextOr (s : State) : Host.Outcome State Fault Refusal → State
  | .next t => t
  | .fault _ => s
  | .refused _ => s

/-- Whether an outcome is a next state. -/
def isNext : Host.Outcome State Fault Refusal → Bool
  | .next _ => true
  | .fault _ => false
  | .refused _ => false

theorem exists_of_isNext {o : Host.Outcome State Fault Refusal} (h : isNext o = true) : ∃ t, o = .next t := by
  cases o with
  | next t => exact ⟨t, rfl⟩
  | fault r => cases h
  | refused r => cases h

/-- The state after an instruction. -/
def after (i : Instr) (s : State) : State := nextOr s (exec i s)

/-- The state after one step. -/
def stepped (s : State) : State := nextOr s (step s)

/-- The state with a script of inputs. -/
def script (xs : List Input) (s : State) : State := { s with inputs := xs }

/-- The six counters, in the order of R29 to R34. -/
def counters (s : State) : List Nat :=
  [s.messageCount.toNat, s.eventCount.toNat, s.crcErrorCount.toNat, s.diagnosticRegister.toNat,
   s.exceptionErrorCount.toNat, s.noResponseCount.toNat]

/-- `HR[0..1] = 0x1234, 0x5678`. -/
def withRegisters : State := { State.reset with mem.holdingRegisters := [(0, 0x1234#16), (1, 0x5678#16)] }

/-- `Coils[0..9] = 1,0,1,1,0,0,1,1,1,0`. -/
def withCoils : State :=
  { State.reset with mem.coils := [(0, 1#1), (2, 1#1), (3, 1#1), (6, 1#1), (7, 1#1), (8, 1#1)] }

/-- Reset, in listen-only mode. -/
def listening : State := { State.reset with listenOnly := true }

/-- A transmission that fails after three bytes. -/
def failing : State := { State.reset with txAnswers := [.fail 3] }

/-- The engine at the last byte of a frame. -/
def ready (frame : List Byte) : State := placeFrame frame State.reset

/-- Reset in another receiver state. -/
def inState (x : RxState) (len need : Nat) : State := { State.reset with rxState := x, rxLen := len, rxNeed := need }

/-! ## Well-formedness: what each check refuses -/

theorem test_wf_refuses_wrcoils_short_data : (Instr.wrcoils 0x01#8 0x0013#16 0x000A#16 0x02#8 [0xCD#8]).wf = false := by
  decide

theorem test_wf_refuses_wrhrs_long_data :
    (Instr.wrhrs 0x01#8 0x0001#16 0x0001#16 0x02#8 [0x00#8, 0x0A#8, 0x01#8]).wf = false := by decide

theorem test_wf_refuses_diagOther_with_a_row_of_its_own : (Instr.diagOther 0x01#8 0x0012#16 0x0000#16).wf = false := by
  decide

theorem test_wf_takes_diagOther : (Instr.diagOther 0x01#8 0x0100#16 0x0000#16).wf = true := by decide

/-! ## Decoding: every constructor from a frame written out by hand -/

theorem test_decode_rdcoil : decode [0x01#8, 0x01#8, 0x00#8, 0x03#8, 0x00#8, 0x05#8, 0x0C#8, 0x09#8]
    = .ok (.rdcoil 0x01#8 0x0003#16 0x0005#16, []) := by rfl

theorem test_decode_rddi : decode [0x01#8, 0x02#8, 0x27#8, 0x10#8, 0x00#8, 0x01#8, 0xB2#8, 0xBB#8]
    = .ok (.rddi 0x01#8 0x2710#16 0x0001#16, []) := by rfl

theorem test_decode_rdhr : decode [0x11#8, 0x03#8, 0x00#8, 0x6B#8, 0x00#8, 0x03#8, 0x76#8, 0x87#8]
    = .ok (.rdhr 0x11#8 0x006B#16 0x0003#16, []) := by rfl

theorem test_decode_rdir : decode [0x01#8, 0x04#8, 0x00#8, 0x05#8, 0x00#8, 0x01#8, 0x21#8, 0xCB#8]
    = .ok (.rdir 0x01#8 0x0005#16 0x0001#16, []) := by rfl

theorem test_decode_wrcoil : decode [0x01#8, 0x05#8, 0x00#8, 0x13#8, 0xFF#8, 0x00#8, 0x7D#8, 0xFF#8]
    = .ok (.wrcoil 0x01#8 0x0013#16 0xFF00#16, []) := by rfl

theorem test_decode_wrhr : decode [0x01#8, 0x06#8, 0x27#8, 0x0F#8, 0xFF#8, 0xFF#8, 0xB2#8, 0xCD#8]
    = .ok (.wrhr 0x01#8 0x270F#16 0xFFFF#16, []) := by rfl

theorem test_decode_diagEcho : decode [0x01#8, 0x08#8, 0x00#8, 0x00#8, 0xA5#8, 0x37#8, 0xDA#8, 0x8D#8]
    = .ok (.diagEcho 0x01#8 0xA537#16, []) := by rfl

theorem test_decode_diagRestart : decode [0x01#8, 0x08#8, 0x00#8, 0x01#8, 0xFF#8, 0x00#8, 0xF0#8, 0x3B#8]
    = .ok (.diagRestart 0x01#8 0xFF00#16, []) := by rfl

theorem test_decode_diagRdreg : decode [0x01#8, 0x08#8, 0x00#8, 0x02#8, 0x55#8, 0xAA#8, 0xFE#8, 0xE4#8]
    = .ok (.diagRdreg 0x01#8 0x55AA#16, []) := by rfl

theorem test_decode_diagListen : decode [0x01#8, 0x08#8, 0x00#8, 0x04#8, 0x00#8, 0x00#8, 0xA1#8, 0xCA#8]
    = .ok (.diagListen 0x01#8 0x0000#16, []) := by rfl

theorem test_decode_diagClear : decode [0x01#8, 0x08#8, 0x00#8, 0x0A#8, 0x00#8, 0x00#8, 0xC0#8, 0x09#8]
    = .ok (.diagClear 0x01#8 0x0000#16, []) := by rfl

theorem test_decode_diagMsg11 : decode [0x01#8, 0x08#8, 0x00#8, 0x0B#8, 0x00#8, 0x00#8, 0x91#8, 0xC9#8]
    = .ok (.diagMsg11 0x01#8 0x0000#16, []) := by rfl

theorem test_decode_diagCrc12 : decode [0x01#8, 0x08#8, 0x00#8, 0x0C#8, 0x00#8, 0x00#8, 0x20#8, 0x08#8]
    = .ok (.diagCrc12 0x01#8 0x0000#16, []) := by rfl

theorem test_decode_diagExc13 : decode [0x01#8, 0x08#8, 0x00#8, 0x0D#8, 0x00#8, 0x00#8, 0x71#8, 0xC8#8]
    = .ok (.diagExc13 0x01#8 0x0000#16, []) := by rfl

theorem test_decode_diagMsg14 : decode [0x01#8, 0x08#8, 0x00#8, 0x0E#8, 0x00#8, 0x00#8, 0x81#8, 0xC8#8]
    = .ok (.diagMsg14 0x01#8 0x0000#16, []) := by rfl

theorem test_decode_diagNoresp15 : decode [0x01#8, 0x08#8, 0x00#8, 0x0F#8, 0x00#8, 0x00#8, 0xD0#8, 0x08#8]
    = .ok (.diagNoresp15 0x01#8 0x0000#16, []) := by rfl

theorem test_decode_diagExc17 : decode [0x01#8, 0x08#8, 0x00#8, 0x11#8, 0x00#8, 0x00#8, 0xB0#8, 0x0E#8]
    = .ok (.diagExc17 0x01#8 0x0000#16, []) := by rfl

theorem test_decode_diagZero18 : decode [0x01#8, 0x08#8, 0x00#8, 0x12#8, 0x12#8, 0x34#8, 0x4D#8, 0x79#8]
    = .ok (.diagZero18 0x01#8 0x1234#16, []) := by rfl

theorem test_decode_diagOther : decode [0x01#8, 0x08#8, 0x01#8, 0x00#8, 0x00#8, 0x00#8, 0xE1#8, 0xF7#8]
    = .ok (.diagOther 0x01#8 0x0100#16 0x0000#16, []) := by rfl

theorem test_decode_evcnt : decode [0x01#8, 0x0B#8, 0x41#8, 0xE7#8] = .ok (.evcnt 0x01#8, []) := by rfl

theorem test_decode_evlog : decode [0x01#8, 0x0C#8, 0x00#8, 0x25#8] = .ok (.evlog 0x01#8, []) := by rfl

theorem test_decode_wrcoils :
    decode [0x01#8, 0x0F#8, 0x00#8, 0x13#8, 0x00#8, 0x0A#8, 0x02#8, 0xCD#8, 0x01#8, 0x72#8, 0xCB#8]
    = .ok (.wrcoils 0x01#8 0x0013#16 0x000A#16 0x02#8 [0xCD#8, 0x01#8], []) := by rfl

theorem test_decode_wrhrs :
    decode [0x01#8, 0x10#8, 0x00#8, 0x01#8, 0x00#8, 0x02#8, 0x03#8, 0x00#8, 0x0A#8, 0x01#8, 0x42#8, 0x26#8]
    = .ok (.wrhrs 0x01#8 0x0001#16 0x0002#16 0x03#8 [0x00#8, 0x0A#8, 0x01#8], []) := by rfl

theorem test_decode_slvid : decode [0x01#8, 0x11#8, 0xC0#8, 0x2C#8] = .ok (.slvid 0x01#8, []) := by rfl

/-- R99: 0x07 is unregistered. -/
theorem test_decode_refuses_unregistered : decode [0x01#8, 0x07#8, 0x00#8, 0x00#8] = .error .unsupportedFunction := by rfl

/-- R92: one byte short of a format Q4 frame. -/
theorem test_decode_refuses_truncated :
    decode [0x01#8, 0x03#8, 0x00#8, 0x00#8, 0x00#8, 0x02#8, 0xC4#8] = .error .truncated := by rfl

theorem test_encode_wrhrs : encode (.wrhrs 0x01#8 0x0001#16 0x0002#16 0x04#8 [0x00#8, 0x0A#8, 0x01#8, 0x02#8])
    = [0x01#8, 0x10#8, 0x00#8, 0x01#8, 0x00#8, 0x02#8, 0x04#8, 0x00#8, 0x0A#8, 0x01#8, 0x02#8, 0x92#8, 0x30#8] := by decide +kernel

/-- opcode_table.json: EVLOG's match word with slave identity 1. -/
theorem test_decodeTableWord_evlog : decodeTableWord 32 0x010C0000 = some (.evlog 0x01#8) := by decide +kernel

/-! ## The CRC generator, the bank operations and the codec -/

/-- The Modbus check value (93_implementation_defined.md G9). -/
theorem test_crc_check_string :
    crc16 [0x31#8, 0x32#8, 0x33#8, 0x34#8, 0x35#8, 0x36#8, 0x37#8, 0x38#8, 0x39#8] = 0x4B37#16 := by decide +kernel

theorem test_getBits_unaligned : getBits (bitBank withCoils .coils) 10000 3 5 = .ok [0x19#8] := by rfl

theorem test_setBits_ignores_padding : setBits [] 10000 0 3 [0xFF#8] = .ok [(0, 1#1), (1, 1#1), (2, 1#1)] := by rfl

theorem test_getRegisters_bigEndian :
    getRegisters (regBank withRegisters .holdingRegisters) 10000 0 2 = .ok [0x12#8, 0x34#8, 0x56#8, 0x78#8] := by rfl

theorem test_buildException : buildException ⟨0x01#8, .f03⟩ .addressOutOfRange = [0x01#8, 0x83#8, 0x02#8, 0xC0#8, 0xF1#8] := by decide +kernel

/-! ## One step per instruction -/

theorem test_rdcoil : (after (.rdcoil 0x01#8 0x0000#16 0x000A#16) withCoils).line
    = [0x01#8, 0x01#8, 0x02#8, 0xCD#8, 0x01#8, 0x2C#8, 0xAC#8] := by decide +kernel

/-- No 16-bit wrap of the sum. -/
theorem test_rdcoil_past_the_end : (after (.rdcoil 0x01#8 0xFFFF#16 0x0002#16) State.reset).line
    = [0x01#8, 0x81#8, 0x02#8, 0xC1#8, 0x91#8] := by decide +kernel

theorem test_rddi : (after (.rddi 0x01#8 0x0000#16 0x0009#16) (flatWrite 10001 0x0001#16 State.reset)).line
    = [0x01#8, 0x02#8, 0x02#8, 0x01#8, 0x00#8, 0xB8#8, 0x28#8] := by decide +kernel

theorem test_rdhr : (after (.rdhr 0x01#8 0x0000#16 0x0002#16) withRegisters).line
    = [0x01#8, 0x03#8, 0x04#8, 0x12#8, 0x34#8, 0x56#8, 0x78#8, 0x81#8, 0x07#8] := by decide +kernel

theorem test_rdhr_too_many : (after (.rdhr 0x01#8 0x0000#16 0x0080#16) State.reset).line
    = [0x01#8, 0x83#8, 0x03#8, 0x01#8, 0x31#8] := by decide +kernel

theorem test_rdir : (after (.rdir 0x01#8 0x0005#16 0x0001#16) (flatWrite 30006 0xBEEF#16 State.reset)).line
    = [0x01#8, 0x04#8, 0x02#8, 0xBE#8, 0xEF#8, 0x89#8, 0x1C#8] := by decide +kernel

/-- Address = capacity, count 0: a success. -/
theorem test_rdir_empty_at_the_capacity : (after (.rdir 0x01#8 0x2710#16 0x0000#16) State.reset).line
    = [0x01#8, 0x04#8, 0x00#8, 0x22#8, 0xC0#8] := by decide +kernel

theorem test_wrcoil : (after (.wrcoil 0x01#8 0x0013#16 0xFF00#16) State.reset).mem.coils = [(19, 1#1)] := by decide +kernel

/-- The value check comes first. -/
theorem test_wrcoil_bad_value : (after (.wrcoil 0x01#8 0x2710#16 0x1234#16) State.reset).line
    = [0x01#8, 0x85#8, 0x03#8, 0x02#8, 0x91#8] := by decide +kernel

theorem test_wrhr : (after (.wrhr 0x01#8 0x270F#16 0xFFFF#16) State.reset).mem.holdingRegisters = [(9999, 0xFFFF#16)] := by decide +kernel

theorem test_wrhr_past_the_end : (after (.wrhr 0x01#8 0x2710#16 0x0003#16) State.reset).line
    = [0x01#8, 0x86#8, 0x02#8, 0xC3#8, 0xA1#8] := by decide +kernel

theorem test_wrcoils_neighbours_survive :
    (after (.wrcoils 0x01#8 0x0013#16 0x000A#16 0x02#8 [0x00#8, 0x00#8])
      { State.reset with mem.coils := [(18, 1#1), (20, 1#1), (29, 1#1)] }).mem.coils = [(18, 1#1), (29, 1#1)] := by decide +kernel

theorem test_wrcoils_past_the_end_writes_nothing :
    (after (.wrcoils 0x01#8 0x270C#16 0x0008#16 0x01#8 [0xFF#8]) State.reset).mem.coils = [] := by decide +kernel

theorem test_wrhrs : (after (.wrhrs 0x01#8 0x0001#16 0x0002#16 0x04#8 [0x00#8, 0x0A#8, 0x01#8, 0x02#8])
    State.reset).mem.holdingRegisters = [(1, 0x000A#16), (2, 0x0102#16)] := by decide +kernel

theorem test_wrhrs_odd_byte_count :
    (after (.wrhrs 0x01#8 0x0001#16 0x0002#16 0x03#8 [0x00#8, 0x0A#8, 0x01#8]) State.reset).line
    = [0x01#8, 0x90#8, 0x03#8, 0x0C#8, 0x01#8] := by decide +kernel

theorem test_diagEcho : (after (.diagEcho 0x01#8 0xA537#16) State.reset).line
    = [0x01#8, 0x08#8, 0x00#8, 0x00#8, 0xA5#8, 0x37#8, 0xDA#8, 0x8D#8] := by decide +kernel

theorem test_diagRestart : counters (after (.diagRestart 0x01#8 0x0000#16)
    { State.reset with messageCount := 2#16, eventCount := 2#16 }) = [0, 3, 0, 0, 0, 0] := by decide +kernel

/-- P3 step 9: in listen-only mode nothing is sent and the mode is left. -/
theorem test_diagRestart_listening : ((after (.diagRestart 0x01#8 0x0000#16) listening).line,
    (after (.diagRestart 0x01#8 0x0000#16) listening).listenOnly) = ([], false) := by decide +kernel

theorem test_diagRdreg : (after (.diagRdreg 0x01#8 0x55AA#16) State.reset).line
    = [0x01#8, 0x08#8, 0x00#8, 0x02#8, 0x00#8, 0x00#8, 0x41#8, 0xCB#8] := by decide +kernel

theorem test_diagListen : ((after (.diagListen 0x01#8 0x0000#16) State.reset).listenOnly,
    counters (after (.diagListen 0x01#8 0x0000#16) State.reset)) = (true, [1, 0, 0, 0, 0, 0]) := by decide +kernel

theorem test_diagClear : counters (after (.diagClear 0x01#8 0x0000#16)
    { State.reset with messageCount := 2#16, eventCount := 1#16, crcErrorCount := 1#16, exceptionErrorCount := 1#16 })
    = [0, 0, 0, 0, 0, 0] := by decide +kernel

theorem test_diagMsg11 : (after (.diagMsg11 0x01#8 0x0000#16) State.reset).line
    = [0x01#8, 0x08#8, 0x00#8, 0x0B#8, 0x00#8, 0x01#8, 0x50#8, 0x09#8] := by decide +kernel

/-- MessageCount wraps from 0xFFFF to 0. -/
theorem test_diagMsg11_wraps : (after (.diagMsg11 0x01#8 0x0000#16) { State.reset with messageCount := 0xFFFF#16 }).line
    = [0x01#8, 0x08#8, 0x00#8, 0x0B#8, 0x00#8, 0x00#8, 0x91#8, 0xC9#8] := by decide +kernel

theorem test_diagCrc12 : (after (.diagCrc12 0x01#8 0x0000#16) { State.reset with crcErrorCount := 1#16 }).line
    = [0x01#8, 0x08#8, 0x00#8, 0x0C#8, 0x00#8, 0x01#8, 0xE1#8, 0xC8#8] := by decide +kernel

theorem test_diagExc13 : (after (.diagExc13 0x01#8 0x0000#16) { State.reset with exceptionErrorCount := 1#16 }).line
    = [0x01#8, 0x08#8, 0x00#8, 0x0D#8, 0x00#8, 0x01#8, 0xB0#8, 0x08#8] := by decide +kernel

theorem test_diagMsg14 : (after (.diagMsg14 0x01#8 0x0000#16) { State.reset with messageCount := 1#16 }).line
    = [0x01#8, 0x08#8, 0x00#8, 0x0E#8, 0x00#8, 0x02#8, 0x00#8, 0x09#8] := by decide +kernel

theorem test_diagNoresp15 : (after (.diagNoresp15 0x01#8 0x0000#16) { State.reset with noResponseCount := 2#16 }).line
    = [0x01#8, 0x08#8, 0x00#8, 0x0F#8, 0x00#8, 0x02#8, 0x51#8, 0xC9#8] := by decide +kernel

theorem test_diagExc17 : (after (.diagExc17 0x01#8 0x0000#16) { State.reset with exceptionErrorCount := 1#16 }).line
    = [0x01#8, 0x08#8, 0x00#8, 0x11#8, 0x00#8, 0x01#8, 0x71#8, 0xCE#8] := by decide +kernel

theorem test_diagZero18 : (after (.diagZero18 0x01#8 0x1234#16) State.reset).line
    = [0x01#8, 0x08#8, 0x00#8, 0x12#8, 0x00#8, 0x00#8, 0x40#8, 0x0E#8] := by decide +kernel

theorem test_diagOther : (after (.diagOther 0x01#8 0x0100#16 0x0000#16) State.reset).line
    = [0x01#8, 0x88#8, 0x01#8, 0x87#8, 0xC0#8] := by decide +kernel

/-- P3 step 8: counted, nothing sent. -/
theorem test_diagOther_listening : counters (after (.diagOther 0x01#8 0x0003#16 0x0000#16) listening)
    = [1, 0, 0, 0, 1, 1] := by decide +kernel

theorem test_evcnt : (after (.evcnt 0x01#8) { State.reset with eventCount := 0xFFFF#16 }).line
    = [0x01#8, 0x0B#8, 0x00#8, 0x00#8, 0xFF#8, 0xFF#8, 0xA5#8, 0xBB#8] := by decide +kernel

theorem test_evcnt_wraps : (after (.evcnt 0x01#8) { State.reset with eventCount := 0xFFFF#16 }).eventCount = 0x0000#16 := by decide +kernel

theorem test_evlog : (after (.evlog 0x01#8) { State.reset with messageCount := 2#16, eventCount := 2#16 }).line
    = [0x01#8, 0x0C#8, 0x08#8, 0x00#8, 0x00#8, 0x00#8, 0x02#8, 0x00#8, 0x03#8, 0x00#8, 0x00#8, 0x2C#8, 0x27#8] := by decide +kernel

theorem test_slvid : (after (.slvid 0x11#8) (State.init { Config.standard with slaveId := 0x11#8 })).line
    = [0x11#8, 0x11#8, 0x08#8, 0x11#8, 0xFF#8, 0x00#8, 0x00#8, 0x00#8, 0x00#8, 0x00#8, 0x00#8, 0xAE#8, 0x87#8] := by decide +kernel

/-- P3 step 4: a write in listen-only mode is dropped. -/
theorem test_listen_only_drops_wrhr : (after (.wrhr 0x01#8 0x0000#16 0xABCD#16) listening).mem.holdingRegisters = [] := by decide +kernel

/-- P6 step 1: the transmission fails, the write stands, the run ends. -/
theorem test_transport_failure : ((after (.wrhr 0x01#8 0x0005#16 0x00AA#16) failing).mem.holdingRegisters,
    (after (.wrhr 0x01#8 0x0005#16 0x00AA#16) failing).runStatus) = ([(5, 0x00AA#16)], .failed) := by decide +kernel

/-! ## One step of the receiver -/

/-- Section 2.8: the last byte of the document's end-to-end request. -/
theorem test_step_runs_frame : (stepped { ready [0x01#8, 0x03#8, 0x00#8, 0x00#8, 0x00#8, 0x02#8, 0xC4#8, 0x0B#8] with
    mem := withRegisters.mem }).line
    = [0x01#8, 0x03#8, 0x04#8, 0x12#8, 0x34#8, 0x56#8, 0x78#8, 0x81#8, 0x07#8] := by decide +kernel

/-- E8: a corrupted CRC byte. -/
theorem test_step_bad_crc : counters (stepped (ready [0x01#8, 0x03#8, 0x00#8, 0x00#8, 0x00#8, 0x01#8, 0x84#8, 0x0B#8]))
    = [0, 0, 1, 0, 0, 0] := by decide +kernel

/-- `01 07` returns to `AwaitID` (unregistered). -/
theorem test_step_rejected_function :
    (stepped (script [.session (.rxByte 0x07#8)] (inState .awaitFunction 1 0))).rxState = .awaitId := by decide +kernel

/-- The tick counter wraps: 9 milliseconds since 2^32 - 4 is no timeout of 1000, 1000 is (R43). -/
theorem test_step_poll_across_the_wrap :
    ((stepped { script [.session .noData] (inState .awaitFunction 1 0) with t0 := 4294967292, tick := 5 }).rxState,
     (stepped { script [.session .noData] (inState .awaitFunction 1 0) with t0 := 4294967292, tick := 996 }).rxState)
    = (.awaitFunction, .awaitId) := by decide +kernel

/-- The host's placing of a table word: the next step runs it (EVCNT, identity 1). -/
theorem test_withFetchWord : (stepped (State.reset.withFetchWord 32 0x010B0000)).line
    = [0x01#8, 0x0B#8, 0x00#8, 0x00#8, 0x00#8, 0x00#8, 0xA4#8, 0x0B#8] := by decide +kernel

/-! ## Witnesses: for each obligation with hypotheses, a state and operands that meet them, clause by clause where the
clauses ask for different ones, at the edge of each range -/

/-- A frame of the least length. -/
theorem witness_ReceiveCheckComparesTrailingBytes : 4 ≤ [0x01#8, 0x0B#8, 0x41#8, 0xE7#8].length
    ∧ crcOk [0x01#8, 0x0B#8, 0x41#8, 0xE7#8] = true ∧ crcOk [0x01#8, 0x0B#8, 0x41#8, 0xE6#8] = false := by decide +kernel

/-- The CRC bytes of the empty body alone. -/
theorem witness_CrcResidueZeroExactlyWhenFramePasses : 2 ≤ [0xFF#8, 0xFF#8].length
    ∧ crc16 [0xFF#8, 0xFF#8] = 0x0000#16 ∧ crc16 [0xFF#8, 0xFE#8] ≠ 0x0000#16 := by decide +kernel

theorem witness_CrcTableFormEqualsBitLoop : 255 < 256 ∧ crcTable.getD 255 0x0000#16 = 0x4040#16 := by decide +kernel

theorem witness_GetBitsPacksLsbFirst : 9999 + 1 ≤ 10000 ∧ 10000 + 0 ≤ 10000 ∧ 10000 < 9999 + 2 ∧ 10000 < 10001 + 0 := by
  decide

theorem witness_SetBitsWritesOnlyTheAddressedBits :
    bankWf (w := 1) [(9999, 1#1)] = true ∧ (1 + 7) / 8 ≤ [0x01#8].length ∧ 9999 + 1 ≤ 10000
      ∧ (2 + 7) / 8 ≤ [0x03#8].length ∧ 10000 < 9999 + 2 := by decide

theorem witness_GetRegistersSerializesBigEndian : 9999 + 1 ≤ 10000 ∧ 10000 + 0 ≤ 10000 ∧ 10000 < 9999 + 2 := by decide

theorem witness_SetRegistersWritesOnlyTheAddressedRegisters :
    bankWf (w := 16) [(9999, 0x0001#16)] = true ∧ 2 * 1 ≤ [0xFF#8, 0xFE#8].length ∧ 9999 + 1 ≤ 10000
      ∧ 2 * 2 ≤ [0x00#8, 0x01#8, 0x00#8, 0x02#8].length ∧ 10000 < 9999 + 2 := by decide

theorem witness_WrittenUnitsReadBack_bits : bankWf (w := 1) [] = true
    ∧ setBits [] 10000 9999 1 [if true = true then 0x01#8 else 0x00#8] = .ok [(9999, 1#1)] := ⟨by decide, rfl⟩

theorem witness_WrittenUnitsReadBack_registers : bankWf (w := 16) [] = true
    ∧ setRegisters [] 10000 9999 1 [hi8 0xFFFE#16, lo8 0xFFFE#16] = .ok [(9999, 0xFFFE#16)] := ⟨by decide, rfl⟩

/-- Both ends of each of the four ranges. -/
theorem witness_FlatRangesMapToBanks : (1 ≤ (1 : Int) ∧ (9999 : Int) ≤ 9999) ∧ (10001 ≤ (10001 : Int) ∧ (19999 : Int) ≤ 19999)
    ∧ (30001 ≤ (30001 : Int) ∧ (39999 : Int) ≤ 39999) ∧ (40001 ≤ (40001 : Int) ∧ (49999 : Int) ≤ 49999)
    ∧ flatRange 9999 = some (.bits .coils, 9998) ∧ flatRange 10001 = some (.bits .discreteInputs, 0)
    ∧ flatRange 39999 = some (.regs .inputRegisters, 9998) ∧ flatRange 40001 = some (.regs .holdingRegisters, 0) := by
  decide

/-- Both ends of each gap. -/
theorem witness_FlatGapsAreNoOperation : ∀ f ∈ [(-1 : Int), 0, 10000, 20000, 30000, 40000, 50000],
    (f < 1 ∨ f = 10000 ∨ (20000 ≤ f ∧ f ≤ 30000) ∨ f = 40000 ∨ 50000 ≤ f) ∧ flatRange f = none := by decide

theorem witness_HostFlatReadReturnsTheUnit : cancelCheckFires (script [.host (.flatRead 40001)] withRegisters) = false
    ∧ (script [.host (.flatRead 40001)] withRegisters).inputs = .host (.flatRead 40001) :: [] := by decide

theorem witness_HostFlatWriteChangesOneUnit : cancelCheckFires (script [.host (.flatWrite 49999 0x0102#16)] withRegisters) = false
    ∧ (script [.host (.flatWrite 49999 0x0102#16)] withRegisters).mem.wf = true
    ∧ (script [.host (.flatWrite 49999 0x0102#16)] withRegisters).inputs = .host (.flatWrite 49999 0x0102#16) :: [] := by
  decide

/-- Offset 16 of a bank of capacity 16, and a gap. -/
theorem witness_HostFlatWriteChangesOneUnit_nowhere :
    flatResolve { Config.standard with capHR := 16 } 40017 = none
      ∧ flatResolve { Config.standard with capHR := 16 } 40016 = some (.regs .holdingRegisters, 15)
      ∧ flatResolve Config.standard 20001 = none := by decide

theorem witness_DecodeOfEncodeIsTheInstruction :
    (Instr.wrcoils 0x01#8 0x0013#16 0x000A#16 0x02#8 [0xCD#8, 0x01#8]).wf = true
      ∧ (Instr.diagOther 0x01#8 0x0003#16 0x0000#16).wf = true ∧ (Instr.wrhrs 0x01#8 0x0000#16 0x0080#16 0x00#8 []).wf = true := by
  decide

theorem witness_EncodeOfDecodeIsTheFrame :
    decode [0x01#8, 0x0B#8, 0x41#8, 0xE7#8] = .ok (.evcnt 0x01#8, []) ∧ crcOk [0x01#8, 0x0B#8, 0x41#8, 0xE7#8] = true :=
  ⟨rfl, by decide +kernel⟩

/-- An unregistered code, a code above MAX_FC, and the least number of bytes with which every code decodes. -/
theorem witness_OnlyTheTwelveFunctionsDecode : (∀ fc ∈ [0x00#8, 0x07#8, 0x12#8, 0x17#8, 0x18#8, 0xFF#8],
      fc ∉ [0x01#8, 0x02#8, 0x03#8, 0x04#8, 0x05#8, 0x06#8, 0x08#8, 0x0B#8, 0x0C#8, 0x0F#8, 0x10#8, 0x11#8])
    ∧ 262 ≤ (List.replicate 262 0xFF#8).length := by decide +kernel

theorem witness_AwaitIdTakesOnlyTheSlaveIdentity : State.reset.runStatus = .running ∧ State.reset.rxState = .awaitId
    ∧ State.reset.cancelPending = false ∧ 0x01#8 = State.reset.cfg.slaveId ∧ 0x00#8 ≠ State.reset.cfg.slaveId
    ∧ (script [.session (.rxByte 0x01#8)] State.reset).inputs = .session (.rxByte 0x01#8) :: []
    ∧ (script [.session .cancel] State.reset).inputs = .session .cancel :: []
    ∧ (script [.session .timeout] State.reset).inputs = .session .timeout :: [] := by decide

theorem witness_SupportedFunctionCodeStartsFixedFields :
    (inState .awaitFunction 1 0).runStatus = .running ∧ (inState .awaitFunction 1 0).rxState = .awaitFunction
    ∧ (script [.session (.rxByte 0x10#8)] (inState .awaitFunction 1 0)).inputs = .session (.rxByte 0x10#8) :: []
    ∧ 0x10#8 = functionByte .f16 := by decide

/-- The fields of a WRHRS frame up to its byte-count. -/
def wrhrsHead : State := { inState .readFixedFields 6 1 with
  rxBuf := fillBuffer State.reset.rxBuf 0 [0x01#8, 0x10#8, 0x00#8, 0x01#8, 0x00#8, 0x02#8] }

theorem witness_ReadingStatesStoreEachByte :
    (inState .readFixedFields 2 6).runStatus = .running ∧ (inState .readFixedFields 2 6).rxLen < bufSize
    ∧ 1 < (inState .readFixedFields 2 6).rxNeed ∧ 1 < (inState .readVariableFields 263 2).rxNeed
    ∧ (inState .readVariableFields 263 2).rxLen < bufSize ∧ wrhrsHead.rxNeed = 1 ∧ wrhrsHead.rxLen = 6
    ∧ wrhrsHead.rxState = .readFixedFields ∧ rxAt wrhrsHead 1 = 0x10#8
    ∧ (script [.session (.rxByte 0xFF#8)] wrhrsHead).inputs = .session (.rxByte 0xFF#8) :: [] := by decide +kernel

/-- The last byte of a good frame, in both reading states, and of a corrupted one. -/
theorem witness_CompleteFrameIsCheckedThenRun :
    (∀ f ∈ [encode (.rdhr 0x01#8 0x0000#16 0x0001#16), encode (.wrhrs 0x01#8 0x0000#16 0x0000#16 0x00#8 [])],
      (ready f).runStatus = .running ∧ (ready f).rxNeed = 1 ∧ 2 ≤ (ready f).rxLen ∧ (ready f).rxLen < bufSize
        ∧ crcOk (rxFrame (ready f) ++ [f.getLastD 0x00#8]) = true
        ∧ (ready f).inputs = .session (.rxByte (f.getLastD 0x00#8)) :: [])
    ∧ (ready (encode (.rdhr 0x01#8 0x0000#16 0x0001#16))).rxState = .readFixedFields
    ∧ rxAt (ready (encode (.rdhr 0x01#8 0x0000#16 0x0001#16))) 1 = 0x03#8
    ∧ (ready (encode (.wrhrs 0x01#8 0x0000#16 0x0000#16 0x00#8 []))).rxState = .readVariableFields
    ∧ crcOk (rxFrame (ready [0x01#8, 0x0B#8, 0x41#8, 0xE6#8]) ++ [0xE6#8]) = false := by decide +kernel

theorem witness_CompleteFrameIsCheckedThenRun_decodes :
    decode (rxFrame (ready [0x01#8, 0x0B#8, 0x41#8, 0xE7#8]) ++ [0xE7#8]) = .ok (.evcnt 0x01#8, []) := by
  rw [show rxFrame (ready [0x01#8, 0x0B#8, 0x41#8, 0xE7#8]) = [0x01#8, 0x0B#8, 0x41#8] by decide +kernel]
  rfl

theorem witness_DeliveredFrameRunsItsInstruction : (Instr.slvid 0x01#8).wf = true
    ∧ instrId (.slvid 0x01#8) = State.reset.cfg.slaveId ∧ State.reset.runStatus = .running
    ∧ State.reset.rxState = .awaitId ∧ State.reset.rxNeed = 0 ∧ State.reset.cancelPending = false
    ∧ (script ((encode (.slvid 0x01#8)).map fun b => .session (.rxByte b)) State.reset).inputs
      = (encode (.slvid 0x01#8)).map (fun b => .session (.rxByte b)) ++ [] := by decide +kernel

theorem witness_AbortsChangeOnlySequencingRegisters :
    (∀ x ∈ [inState .awaitFunction 1 0, inState .readFixedFields 2 6, inState .readVariableFields 7 6],
      x.runStatus = .running ∧ (x.rxState = .awaitFunction ∨ x.rxState = .readFixedFields ∨ x.rxState = .readVariableFields)
        ∧ (script [.session .timeout] x).inputs = .session .timeout :: [])
    ∧ (script [.session (.rxByte 0x17#8)] (inState .awaitFunction 1 0)).inputs = .session (.rxByte 0x17#8) :: []
    ∧ 0x17#8 ∉ [0x01#8, 0x02#8, 0x03#8, 0x04#8, 0x05#8, 0x06#8, 0x08#8, 0x0B#8, 0x0C#8, 0x0F#8, 0x10#8, 0x11#8] := by
  decide

/-- Reset in the silence wait, where it is configured. -/
def quieting : State := { State.init { Config.standard with silenceWaitEn := true } with rxState := .silenceWait }

theorem witness_SilenceWaitDrainsUntilQuiet : quieting.runStatus = .running ∧ quieting.rxState = .silenceWait
    ∧ (script [.session (.rxByte 0x01#8)] quieting).inputs = .session (.rxByte 0x01#8) :: []
    ∧ (script [.session .quiet] quieting).inputs = .session .quiet :: [] := by decide

theorem witness_CancelFollowsThePolicy :
    (∀ p ∈ [CancelPolicy.always, .never, .either],
      let s := script [.session .cancel]
        { State.init { Config.standard with cancelMidframe := p } with rxState := .readFixedFields, rxLen := 2, rxNeed := 6 }
      s.runStatus = .running ∧ s.rxState ≠ .awaitId ∧ s.inputs = .session .cancel :: [] ∧ s.cfg.cancelMidframe = p)
    ∧ { State.reset with cancelPending := true }.rxState = .awaitId
    ∧ { State.reset with cancelPending := true }.cancelPending = true := by decide

theorem witness_EndedRunWaitsForReentry :
    ∀ r ∈ [RunStatus.completed, .failed], { State.reset with runStatus := r }.runStatus ≠ .running
      ∧ (script [.session (.rxByte 0x01#8)] { State.reset with runStatus := r }).inputs = .session (.rxByte 0x01#8) :: []
      ∧ (script [.host .enterLoop] { State.reset with runStatus := r }).inputs = .host .enterLoop :: [] := by decide

/-- One millisecond before the interval has elapsed, and when it has. -/
theorem witness_PollTimesOutWhenTheIntervalHasElapsed :
    (∀ x ∈ [State.reset, inState .awaitFunction 1 0, inState .readFixedFields 2 6, inState .readVariableFields 7 6, quieting],
      ∀ ms ∈ [9, 10, 999, 1000], let s := script [.session .noData] { x with tick := ms }
        s.runStatus = .running ∧ cancelCheckFires s = false ∧ s.inputs = .session .noData :: [])
    ∧ ¬ (1000 : Int) ≤ ((999 : Int) - 0) % ((2 ^ 32 : Nat) : Int) ∧ (1000 : Int) ≤ ((1000 : Int) - 0) % ((2 ^ 32 : Nat) : Int) := by
  decide

/-- In a bounded wait and in the silence wait, under the least intervals there are. -/
theorem witness_NoTimeoutBeforeTimePasses :
    ∀ x ∈ [RxState.awaitFunction, .readFixedFields, .readVariableFields, .silenceWait],
      let s := script [.session .noData] { State.init { Config.standard with tNocomm := ⟨1, by decide⟩, tQuiet := ⟨1, by decide⟩ }
        with rxState := x, t0 := 7, tick := 7 }
      cancelCheckFires s = false ∧ s.inputs = .session .noData :: [] ∧ s.t0 = s.tick := by decide

/-- A state that meets the invariant and whose step runs a frame. -/
theorem witness_StepKeepsTheInvariant : Inv (ready (encode (.wrhr 0x01#8 0x270F#16 0xFFFF#16)))
    ∧ ∃ t, step (ready (encode (.wrhr 0x01#8 0x270F#16 0xFFFF#16))) = .next t :=
  ⟨by decide +kernel, exists_of_isNext (by decide +kernel)⟩

theorem witness_NoStepFaultsUnderTheInvariant : Inv (ready (encode (.wrcoils 0x01#8 0x0000#16 0x0008#16 0x01#8 [0xFF#8]))) := by
  decide +kernel

theorem witness_NoStepChangesTheConfiguration :
    ∃ t, step (script [.host (.flatWrite 1 0x0001#16)] State.reset) = .next t := exists_of_isNext (by decide)

theorem witness_DiagnosticRegisterStaysZero : (ready (encode (.diagClear 0x01#8 0x0000#16))).diagnosticRegister = 0x0000#16
    ∧ ∃ t, step (ready (encode (.diagClear 0x01#8 0x0000#16))) = .next t :=
  ⟨by decide +kernel, exists_of_isNext (by decide +kernel)⟩

theorem witness_OnlyBytesMoveCountersModeAndLine : ∀ x ∈ [Input.tick 5, .session .cancel, .session .noData,
      .host (.flatWrite 40001 0x1234#16)],
    (∀ b rest, (script [x] (inState .awaitFunction 1 0)).inputs ≠ .session (.rxByte b) :: rest)
      ∧ ∃ t, step (script [x] (inState .awaitFunction 1 0)) = .next t := by
  intro x hx
  simp only [List.mem_cons, List.not_mem_nil, or_false] at hx
  rcases hx with rfl | rfl | rfl | rfl
  · exact ⟨(by intro b rest h; cases h), exists_of_isNext (by decide)⟩
  · exact ⟨(by intro b rest h; cases h), ⟨_, rfl⟩⟩
  · exact ⟨(by intro b rest h; cases h), exists_of_isNext (by decide)⟩
  · exact ⟨(by intro b rest h; cases h), exists_of_isNext (by decide)⟩

theorem witness_RequestsWriteOnlyTheirBank :
    (∃ t, exec (.wrcoil 0x01#8 0x0013#16 0xFF00#16) withRegisters = .next t)
      ∧ instrFunction (.wrcoil 0x01#8 0x0013#16 0xFF00#16) ≠ .f06 ∧ instrFunction (.wrcoil 0x01#8 0x0013#16 0xFF00#16) ≠ .f16
      ∧ (∃ t, exec (.wrhr 0x01#8 0x0013#16 0xFF00#16) withCoils = .next t)
      ∧ instrFunction (.wrhr 0x01#8 0x0013#16 0xFF00#16) ≠ .f05 ∧ instrFunction (.wrhr 0x01#8 0x0013#16 0xFF00#16) ≠ .f15 :=
  ⟨⟨_, rfl⟩, by decide, by decide, ⟨_, rfl⟩, by decide, by decide⟩

theorem witness_OnlyListenAndRestartChangeTheMode : (∃ t, exec (.diagListen 0x01#8 0x0000#16) State.reset = .next t)
    ∧ (∃ t, exec (.diagRestart 0x01#8 0x0000#16) listening = .next t) ∧ ∃ t, exec (.diagClear 0x01#8 0x0000#16) listening = .next t :=
  ⟨⟨_, rfl⟩, ⟨_, rfl⟩, ⟨_, rfl⟩⟩

theorem witness_ListenOnlyDropsRequests : listening.listenOnly = true
    ∧ instrFunction (.rdhr 0x01#8 0x0000#16 0x0001#16) ≠ .f08 := by decide

theorem witness_ListenOnlyTransmitsNothing : listening.listenOnly = true
    ∧ ∃ t, exec (.diagRestart 0x01#8 0x0000#16) listening = .next t := ⟨rfl, ⟨_, rfl⟩⟩

/-- Both values of the latched flag. -/
theorem witness_ExceptionEntryCountsAndReplies : (false = false) ∧ (true = true)
    ∧ (takeException ⟨0x01#8, .f03⟩ .addressOutOfRange false State.reset).line = [0x01#8, 0x83#8, 0x02#8, 0xC0#8, 0xF1#8]
    ∧ (takeException ⟨0x01#8, .f03⟩ .addressOutOfRange true State.reset).line = [] := by decide +kernel

theorem witness_TransportFailureUndoesNothing :
    (∃ t, exec (.wrhr 0x01#8 0x0005#16 0x00AA#16) { State.reset with txAnswers := .fail 3 :: [] } = .next t)
      ∧ ∃ t, exec (.wrhr 0x01#8 0x0005#16 0x00AA#16) { State.reset with txAnswers := .ok :: [] } = .next t :=
  ⟨⟨_, rfl⟩, ⟨_, rfl⟩⟩

/-- The largest answerable count, the last offsets, and count 0 at the capacity. -/
theorem witness_ReadBitRequestsReply : State.reset.listenOnly = false ∧ (2040#16).toNat ≤ 2040
    ∧ (7960#16).toNat + (2040#16).toNat ≤ State.reset.cfg.capCoils ∧ (10000#16).toNat + (0#16).toNat ≤ State.reset.cfg.capDI := by
  decide

theorem witness_ReadRegisterRequestsReply : State.reset.listenOnly = false ∧ (127#16).toNat ≤ 127
    ∧ (9873#16).toNat + (127#16).toNat ≤ State.reset.cfg.capHR ∧ (10000#16).toNat + (0#16).toNat ≤ State.reset.cfg.capIR := by
  decide

/-- The least count that cannot be answered, and the least range past each capacity. -/
theorem witness_ReadRequestsRaiseTheirExceptions : State.reset.listenOnly = false ∧ 2040 < (2041#16).toNat
    ∧ 127 < (128#16).toNat ∧ (1#16).toNat ≤ 127 ∧ (1#16).toNat ≤ 2040
    ∧ State.reset.cfg.capCoils < (10000#16).toNat + (1#16).toNat ∧ State.reset.cfg.capDI < (10000#16).toNat + (1#16).toNat
    ∧ State.reset.cfg.capHR < (10000#16).toNat + (1#16).toNat ∧ State.reset.cfg.capIR < (10000#16).toNat + (1#16).toNat := by
  decide

theorem witness_ForceSingleCoilWritesAndEchoes : withCoils.listenOnly = false ∧ bankWf withCoils.mem.coils = true
    ∧ (0xFF00#16 = 0x0000#16 ∨ 0xFF00#16 = 0xFF00#16) ∧ (9999#16).toNat + 1 ≤ withCoils.cfg.capCoils := by decide

theorem witness_PresetSingleRegisterWritesAndEchoes : withRegisters.listenOnly = false
    ∧ bankWf withRegisters.mem.holdingRegisters = true ∧ (9999#16).toNat + 1 ≤ withRegisters.cfg.capHR := by decide

/-- Ten coils up to the last one; and none at the capacity. -/
theorem witness_ForceMultipleCoilsWritesAndEchoes : withCoils.listenOnly = false ∧ bankWf withCoils.mem.coils = true
    ∧ (Instr.wrcoils 0x01#8 9990#16 10#16 0x02#8 [0xCD#8, 0x01#8]).wf = true ∧ (0x02#8).toNat = ((10#16).toNat + 7) / 8
    ∧ (9990#16).toNat + (10#16).toNat ≤ withCoils.cfg.capCoils
    ∧ (Instr.wrcoils 0x01#8 10000#16 0#16 0x00#8 []).wf = true ∧ (0x00#8).toNat = ((0#16).toNat + 7) / 8
    ∧ (10000#16).toNat + (0#16).toNat ≤ withCoils.cfg.capCoils := by decide

theorem witness_PresetMultipleRegistersWritesAndEchoes : withRegisters.listenOnly = false
    ∧ bankWf withRegisters.mem.holdingRegisters = true
    ∧ (Instr.wrhrs 0x01#8 9998#16 2#16 0x04#8 [0x00#8, 0x0A#8, 0x01#8, 0x02#8]).wf = true
    ∧ (0x04#8).toNat = (2#16).toNat * 2 ∧ (9998#16).toNat + (2#16).toNat ≤ withRegisters.cfg.capHR := by decide

/-- Each clause: a value next to the two legal ones, the first address past the end, byte-counts one off, and counts
whose byte-count fits no byte. -/
theorem witness_WriteRequestsRaiseTheirExceptions : State.reset.listenOnly = false
    ∧ (0xFF01#16 ≠ 0x0000#16 ∧ 0xFF01#16 ≠ 0xFF00#16) ∧ State.reset.cfg.capCoils < (10000#16).toNat + 1
    ∧ State.reset.cfg.capHR < (10000#16).toNat + 1
    ∧ (0x01#8).toNat ≠ ((10#16).toNat + 7) / 8 ∧ (0xFF#8).toNat ≠ ((2041#16).toNat + 7) / 8
    ∧ ((0x01#8).toNat = ((1#16).toNat + 7) / 8 ∧ State.reset.cfg.capCoils < (10000#16).toNat + (1#16).toNat)
    ∧ (0x03#8).toNat ≠ (2#16).toNat * 2 ∧ (0x00#8).toNat ≠ (128#16).toNat * 2
    ∧ ((0x04#8).toNat = (2#16).toNat * 2 ∧ State.reset.cfg.capHR < (9999#16).toNat + (2#16).toNat) := by decide

/-- EVCNT, EVLOG and SLVID in normal mode. -/
theorem witness_EventCounterAndLogReport : State.reset.listenOnly = false := rfl

theorem witness_ReportSlaveIdReports : State.reset.listenOnly = false := rfl

end Sys2Proof.Tests
end

section
/-! PROOFS. The state after reset (spec/10_state.md R44): what each part of `State.init` reads as. -/

namespace Sys2Proof.Machine

open Sys2Proof

/-! ## The banks after reset -/

@[simp] theorem bankRead_nil (w a : Nat) : bankRead ([] : Bank w) a = 0#w := rfl

@[simp] theorem bitBank_init (c : Config) (b : BitBank) : bitBank (State.init c) b = [] := by cases b <;> rfl

@[simp] theorem regBank_init (c : Config) (b : RegBank) : regBank (State.init c) b = [] := by cases b <;> rfl

/-- R44: the banks are zero-filled, at every offset and under every capacity. -/
@[simp] theorem unitAt_init (c : Config) (b : BankId) (a : Nat) : unitAt (State.init c) b a = 0x0000#16 := by
  cases b with
  | bits b => rw [unitAt, bitBank_init, bankRead_nil, BitVec.setWidth_zero]
  | regs b => rw [unitAt, regBank_init, bankRead_nil]

/-! ## The mode and the counters after reset -/

@[simp] theorem listenOnly_init (c : Config) : (State.init c).listenOnly = false := rfl

theorem countersAre_init (c : Config) :
    CountersAre (State.init c) 0x0000#16 0x0000#16 0x0000#16 0x0000#16 0x0000#16 0x0000#16 :=
  ⟨rfl, rfl, rfl, rfl, rfl, rfl⟩

/-! ## The obligation -/

/-- Settles O30: R44 part by part, the banks through what an empty bank reads as. -/
theorem resetClearsBanksCountersAndMode : Obligations.ResetClearsBanksCountersAndMode := fun c =>
  ⟨unitAt_init c, listenOnly_init c, countersAre_init c, rfl⟩

end Sys2Proof.Machine
end

section
/-! PROOFS. The flat address layer (spec/20_memory.md R63, R64): where a flat address lands, and what happens where it
lands nowhere. -/

namespace Sys2Proof.Machine

open Sys2Proof

/-! ## Where a flat address lands -/

/-- The flat address of offset 0 of a bank (the bases of the table in R63). -/
def flatBase : BankId → Int
  | .bits .coils => 1
  | .bits .discreteInputs => 10001
  | .regs .inputRegisters => 30001
  | .regs .holdingRegisters => 40001

/-- R63 said once: a bank's flat addresses are the 9999 that begin at its base. -/
theorem flatRange_eq_some_iff {f : Int} {b : BankId} {o : Nat} :
    flatRange f = some (b, o) ↔ f = flatBase b + o ∧ o ≤ 9998 := by
  constructor
  · intro h
    unfold flatRange at h
    split_ifs at h <;> (cases h; simp only [flatBase]; omega)
  · rintro ⟨rfl, bound⟩
    have cancel (base : Int) : (base + o - base).toNat = o := by omega
    unfold flatRange
    match b with
    | .bits .coils => rw [flatBase, if_pos (by omega), cancel]
    | .bits .discreteInputs =>
      rw [flatBase, if_neg (by omega), if_pos (by omega), cancel]
    | .regs .inputRegisters =>
      rw [flatBase, if_neg (by omega), if_neg (by omega), if_pos (by omega), cancel]
    | .regs .holdingRegisters =>
      rw [flatBase, if_neg (by omega), if_neg (by omega), if_neg (by omega), if_pos (by omega), cancel]

theorem flatRange_of_mem_range {f : Int} (b : BankId) (lower : flatBase b ≤ f) (upper : f ≤ flatBase b + 9998) :
    flatRange f = some (b, (f - flatBase b).toNat) :=
  flatRange_eq_some_iff.2 (by omega)

theorem flatRange_offset_le {f : Int} {b : BankId} {o : Nat} (h : flatRange f = some (b, o)) : o ≤ 9998 :=
  (flatRange_eq_some_iff.1 h).2

/-- R64: the gaps meet the range of no bank. -/
theorem flatRange_of_gap {f : Int}
    (gap : f < 1 ∨ f = 10000 ∨ (20000 ≤ f ∧ f ≤ 30000) ∨ f = 40000 ∨ 50000 ≤ f) : flatRange f = none := by
  refine Option.eq_none_iff_forall_ne_some.2 fun (b, o) h => ?_
  obtain ⟨position, bound⟩ := flatRange_eq_some_iff.1 h
  rcases b with (_ | _) | (_ | _) <;> simp only [flatBase] at position <;> omega

/-! ## An address that lands nowhere -/

theorem flatResolve_of_flatRange_none (c : Config) {f : Int} (h : flatRange f = none) : flatResolve c f = none := by
  rw [flatResolve, h]

theorem flatRead_of_flatResolve_none {s : State} {f : Int} (h : flatResolve s.cfg f = none) :
    flatRead s f = 0x0000#16 := by
  rw [flatRead, h]

theorem flatWrite_of_flatResolve_none {s : State} {f : Int} (v : Word) (h : flatResolve s.cfg f = none) :
    flatWrite f v s = s := by
  rw [flatWrite, h]

/-! ## The obligations -/

/-- Settles O11: each range is the range of its bank, and the offsets are bounded by its length. -/
theorem flatRangesMapToBanks : Obligations.FlatRangesMapToBanks :=
  ⟨fun _ => flatRange_of_mem_range (.bits .coils), fun _ => flatRange_of_mem_range (.bits .discreteInputs),
    fun _ => flatRange_of_mem_range (.regs .inputRegisters), fun _ => flatRange_of_mem_range (.regs .holdingRegisters),
    fun _ _ _ => flatRange_offset_le⟩

/-- Settles O12: a gap lies in no range, so it resolves to no operation, whatever the capacities. -/
theorem flatGapsAreNoOperation : Obligations.FlatGapsAreNoOperation := by
  intro s f v gap
  have nowhere : flatResolve s.cfg f = none := flatResolve_of_flatRange_none s.cfg (flatRange_of_gap gap)
  exact ⟨flatRead_of_flatResolve_none nowhere, flatWrite_of_flatResolve_none v nowhere⟩

end Sys2Proof.Machine
end

section
/-! PROOFS. The CRC-16/Modbus generator (spec/40_crc.md R133, R137): the document's check values, and what the check on
receive compares. -/

namespace Sys2Proof.Machine

open Sys2Proof

/-! ## The CRCs of the document's example bodies -/

theorem crc16_checkBody : crc16 [0x01#8, 0x03#8, 0x00#8, 0x00#8, 0x00#8, 0x01#8] = 0x0A84#16 := by decide +kernel

theorem crc16_requestBody : crc16 [0x01#8, 0x03#8, 0x00#8, 0x00#8, 0x00#8, 0x02#8] = 0x0BC4#16 := by decide +kernel

theorem crc16_responseBody : crc16 [0x01#8, 0x03#8, 0x04#8, 0x12#8, 0x34#8, 0x56#8, 0x78#8] = 0x0781#16 := by
  decide +kernel

/-! ## The trailing bytes of a frame -/

/-- The bytes that `crcOk` cuts off a frame, by index. -/
theorem drop_length_sub_two (frame : List Byte) (d : Byte) (long : 2 ≤ frame.length) :
    frame.drop (frame.length - 2) = [frame.getD (frame.length - 2) d, frame.getD (frame.length - 1) d] := by
  have next : frame.length - 2 + 1 = frame.length - 1 := by omega
  have last : frame.length - 1 + 1 = frame.length := by omega
  rw [List.drop_eq_getElem_cons (by omega), next, List.drop_eq_getElem_cons (by omega), last, List.drop_length,
    List.getD_eq_getElem _ _ (by omega), List.getD_eq_getElem _ _ (by omega)]

/-- R133 with the bound the comparison itself needs: two bytes to compare. -/
theorem crcOk_iff_trailing_bytes (frame : List Byte) (d : Byte) (long : 2 ≤ frame.length) :
    crcOk frame = true ↔
      frame.getD (frame.length - 2) d = lo8 (crc16 (frame.take (frame.length - 2)))
        ∧ frame.getD (frame.length - 1) d = hi8 (crc16 (frame.take (frame.length - 2))) := by
  rw [crcOk, decide_eq_true_iff, drop_length_sub_two frame d long, crcBytes, List.cons.injEq, List.cons.injEq,
    and_iff_left rfl]

/-! ## The obligations -/

/-- Settles O1: each body is run through the generator once, and the bytes are the halves of its CRC. -/
theorem crcCheckValue : Obligations.CrcCheckValue := by
  unfold Obligations.CrcCheckValue
  rw [crc16_checkBody, crc16_requestBody, crc16_responseBody]
  decide

/-- Settles O2: the two bytes cut off by the check are the last two by index, and they are compared one by one. -/
theorem receiveCheckComparesTrailingBytes : Obligations.ReceiveCheckComparesTrailingBytes := fun frame long =>
  crcOk_iff_trailing_bytes frame 0x00#8 (by omega)

end Sys2Proof.Machine
end

section
/-! PROOFS. The two bank operations that read (spec/20_memory.md R140, R142): what the bytes read from a range of a bank
carry, and when a read fails. -/

namespace Sys2Proof.Machine

open Sys2Proof

/-! ## The bytes of a range -/

/-- The addressed units bit by bit. A bit at or above `n` pads the last byte: no unit answers for it, so it is 0. -/
theorem packedBits_packBits_bankReadRange (bank : Bank 1) (a n : Nat) :
    PackedBits (packBits (bankReadRange bank a n)) n fun i => (bankRead bank (a + i)).getLsbD 0 := by
  refine ⟨by simp, fun i stored => ?_⟩
  rw [packBits_bit _ stored, bankReadRange_getD]
  by_cases addressed : i < n
  · rw [if_pos addressed, decide_eq_true addressed, Bool.true_and]
  · rw [if_neg addressed, decide_eq_false addressed, Bool.false_and, BitVec.getLsbD_zero]

theorem bankReadRange_getElem {w : Nat} (bank : Bank w) (a n : Nat) {i : Nat}
    (h : i < (bankReadRange bank a n).length) : (bankReadRange bank a n)[i] = bankRead bank (a + i) := by
  simp [bankReadRange]

/-- The addressed units pair of bytes by pair of bytes. -/
theorem packedRegisters_registersToBytes_bankReadRange (bank : Bank 16) (a n : Nat) :
    PackedRegisters (registersToBytes (bankReadRange bank a n)) n fun i => bankRead bank (a + i) := by
  refine ⟨by simp, fun i addressed => ?_⟩
  have listed : i < (bankReadRange bank a n).length := by simpa using addressed
  have pair := registersToBytes_getD (bankReadRange bank a n) listed
  rwa [bankReadRange_getElem bank a n listed] at pair

/-! ## The obligations -/

/-- Settles O6: the two answers of GetBits exclude each other, and the one in range carries the addressed bits. -/
theorem getBitsPacksLsbFirst : Obligations.GetBitsPacksLsbFirst := by
  intro bank cap address length
  obtain ⟨outside, failed⟩ | ⟨inside, answered⟩ := getBits_cases bank cap address length
  · exact ⟨fun _ => failed, fun inside => absurd outside (Nat.not_lt.2 inside)⟩
  · exact ⟨fun outside => absurd outside (Nat.not_lt.2 inside),
      fun _ => ⟨_, answered, packedBits_packBits_bankReadRange bank address length⟩⟩

/-- Settles O8: the two answers of GetRegisters exclude each other, and the one in range carries the addressed
registers. -/
theorem getRegistersSerializesBigEndian : Obligations.GetRegistersSerializesBigEndian := by
  intro bank cap address length
  obtain ⟨outside, failed⟩ | ⟨inside, answered⟩ := getRegisters_cases bank cap address length
  · exact ⟨fun _ => failed, fun inside => absurd outside (Nat.not_lt.2 inside)⟩
  · exact ⟨fun outside => absurd outside (Nat.not_lt.2 inside),
      fun _ => ⟨_, answered, packedRegisters_registersToBytes_bankReadRange bank address length⟩⟩

end Sys2Proof.Machine
end

section
/-! PROOFS. The frame codec (spec/42_frame_codec.md R160, R161): the exception frame, and the bit of the function code
that it sets. -/

namespace Sys2Proof.Machine

open Sys2Proof

/-- A frame ends in the CRC of its body, low byte first. -/
theorem appendCrc_eq (body : List Byte) : appendCrc body = body ++ [lo8 (crc16 body), hi8 (crc16 body)] := rfl

@[simp] theorem buildException_length (h : Header) (k : WireException) : (buildException h k).length = 5 := by
  rw [buildException, appendCrc_length, List.length_cons, List.length_cons, List.length_singleton]

/-- Every supported function code is below 0x80, so bit 7 tells an exception frame from a response. -/
@[simp] theorem functionByte_bit7 (f : FunctionCode) : (functionByte f).getLsbD 7 = false := by
  cases f <;> rfl

/-! ## The obligation -/

/-- Settles O5: the frame is its three-byte body with the CRC appended; the codes are the three lines of `excCode`. -/
theorem exceptionFrameIsFiveBytes : Obligations.ExceptionFrameIsFiveBytes := fun h k =>
  ⟨appendCrc_eq _, buildException_length h k, rfl, rfl, rfl, functionByte_bit7 h.function⟩

end Sys2Proof.Machine
end

section
/-! PROOFS. The decoder and the encoder (spec/30_encoding.md R92 to R99): which frames decode, what they decode to, and
that the two undo each other. -/

namespace Sys2Proof

open Sys2Proof.Machine

/-! ## The function-code map (R94, R99) -/

/-- The twelve wire bytes, in the order of R94. -/
def supportedBytes : List Byte :=
  [0x01#8, 0x02#8, 0x03#8, 0x04#8, 0x05#8, 0x06#8, 0x08#8, 0x0B#8, 0x0C#8, 0x0F#8, 0x10#8, 0x11#8]

theorem functionByte_mem_supportedBytes (f : FunctionCode) : functionByte f ∈ supportedBytes := by
  cases f <;> decide

theorem mem_supportedBytes_iff (b : Byte) : b ∈ supportedBytes ↔ ∃ f, functionByte f = b := by
  constructor
  · intro supported
    have known : ∀ b ∈ supportedBytes, ∃ f, functionOfByte b = some f := by
      simp only [supportedBytes, List.forall_mem_cons, List.not_mem_nil, false_imp_iff, implies_true, and_true]
      exact ⟨⟨.f01, rfl⟩, ⟨.f02, rfl⟩, ⟨.f03, rfl⟩, ⟨.f04, rfl⟩, ⟨.f05, rfl⟩, ⟨.f06, rfl⟩, ⟨.f08, rfl⟩, ⟨.f11, rfl⟩,
        ⟨.f12, rfl⟩, ⟨.f15, rfl⟩, ⟨.f16, rfl⟩, ⟨.f17, rfl⟩⟩
    obtain ⟨f, mapped⟩ := known b supported
    exact ⟨f, functionByte_of_functionOfByte mapped⟩
  · rintro ⟨f, rfl⟩
    exact functionByte_mem_supportedBytes f

theorem functionOfByte_eq_none {b : Byte} (unsupported : b ∉ supportedBytes) : functionOfByte b = none :=
  Option.eq_none_iff_forall_ne_some.2 fun f mapped =>
    unsupported ((mem_supportedBytes_iff b).2 ⟨f, functionByte_of_functionOfByte mapped⟩)

/-! ## The decoder behind bytes 0 and 1 -/

theorem decode_functionByte (id : Byte) (f : FunctionCode) (rest : List Byte) :
    decode (id :: functionByte f :: rest) = decodeFields id f rest := by
  rw [decode, functionOfByte_functionByte]

theorem decode_unsupported (id : Byte) {fc : Byte} (unsupported : fc ∉ supportedBytes) (rest : List Byte) :
    decode (id :: fc :: rest) = .error .unsupportedFunction := by
  rw [decode, functionOfByte_eq_none unsupported]

/-! ## From an instruction to its frame and back -/

theorem appendCrc_append (body rest : List Byte) :
    appendCrc body ++ rest = body ++ lo8 (crc16 body) :: hi8 (crc16 body) :: rest := by
  rw [appendCrc_eq, List.append_assoc]; rfl

theorem decode_bodyQ4 (id : Byte) (f : FunctionCode) (a b : Word) (x y : Byte) (rest : List Byte) :
    decode (bodyQ4 id f a b ++ x :: y :: rest)
      = decodeFields id f (hi8 a :: lo8 a :: hi8 b :: lo8 b :: x :: y :: rest) :=
  decode_functionByte id f _

theorem decode_bodyQV (id : Byte) (f : FunctionCode) (a n : Word) (bc : Byte) (data : List Byte) (x y : Byte)
    (rest : List Byte) :
    decode (bodyQV id f a n bc data ++ x :: y :: rest)
      = decodeFields id f (hi8 a :: lo8 a :: hi8 n :: lo8 n :: bc :: (data ++ x :: y :: rest)) :=
  decode_functionByte id f _

/-- A function 08 frame decodes by its sub-function (R97). -/
theorem decode_bodyQ4_f08 (id : Byte) (sub data : Word) (x y : Byte) (rest : List Byte) :
    decode (bodyQ4 id .f08 sub data ++ x :: y :: rest) = .ok (decodeDiag id sub data, rest) := by
  rw [decode_bodyQ4, decodeFields, takeQ4_fields]; rfl

/-- The decoder does not look at the two CRC bytes (log 16): any two in their place give the instruction back. -/
theorem decode_encodeBody {i : Instr} (hwf : i.wf = true) (x y : Byte) (rest : List Byte) :
    decode (encodeBody i ++ x :: y :: rest) = .ok (i, rest) := by
  cases i with
  | evcnt id | evlog id | slvid id => rfl
  | rdcoil id a b | rddi id a b | rdhr id a b | rdir id a b | wrcoil id a b | wrhr id a b =>
    rw [encodeBody, decode_bodyQ4, decodeFields, takeQ4_fields]; rfl
  | diagOther id sub data =>
    rw [encodeBody, decode_bodyQ4_f08, decodeDiag_other (of_decide_eq_true hwf)]
  | diagEcho id data | diagRestart id data | diagRdreg id data | diagListen id data | diagClear id data
  | diagMsg11 id data | diagCrc12 id data | diagExc13 id data | diagMsg14 id data | diagNoresp15 id data
  | diagExc17 id data | diagZero18 id data =>
    rw [encodeBody, decode_bodyQ4_f08]; rfl
  | wrcoils id a n bc data | wrhrs id a n bc data =>
    rw [encodeBody, decode_bodyQV, decodeFields, takeQV_fields a n bc data (of_decide_eq_true hwf)]; rfl

/-! ## From a frame to its instruction and back -/

theorem takeQ4_eq_ok {rest tail : List Byte} {a b : Word} (h : takeQ4 rest = .ok (a, b, tail)) :
    ∃ x y, rest = hi8 a :: lo8 a :: hi8 b :: lo8 b :: x :: y :: tail := by
  unfold takeQ4 at h
  split at h
  · next x y _ => cases h; exact ⟨x, y, by simp⟩
  · cases h

theorem takeQ0_eq_ok {rest tail : List Byte} (h : takeQ0 rest = .ok tail) : ∃ x y, rest = x :: y :: tail := by
  unfold takeQ0 at h
  split at h
  · next x y _ => cases h; exact ⟨x, y, rfl⟩
  · cases h

theorem takeQV_eq_ok {rest : List Byte} {q : FieldsQV} (h : takeQV rest = .ok q) :
    q.data.length = q.byteCount.toNat ∧ ∃ x y, rest = hi8 q.address :: lo8 q.address :: hi8 q.count :: lo8 q.count
      :: q.byteCount :: (q.data ++ x :: y :: q.tail) := by
  unfold takeQV at h
  split at h
  · next bc more =>
    split_ifs at h with short
    cases h
    refine ⟨List.length_take_of_le (by omega), more[bc.toNat], more[bc.toNat + 1], ?_⟩
    simp only [hi8_be16, lo8_be16, List.cons.injEq, true_and]
    rw [← List.drop_eq_getElem_cons, ← List.drop_eq_getElem_cons, List.take_append_drop]
  · cases h

/-- What a decoded reading `g` of successfully taken fields comes from. -/
theorem map_eq_ok {α β : Type} {r : Except DecodeError α} {g : α → β} {y : β} (h : r.map g = .ok y) :
    ∃ x, r = .ok x ∧ g x = y := by
  cases r with
  | error e => cases h
  | ok x => cases h; exact ⟨x, rfl, rfl⟩

/-- Sub-function by sub-function: the decoded diagnostic is well formed and carries the sub-function it was read from. -/
theorem decodeDiag_spec (id : Byte) (sub data : Word) :
    (decodeDiag id sub data).wf = true ∧ encodeBody (decodeDiag id sub data) = bodyQ4 id .f08 sub data := by
  by_cases own : sub ∈ diagSubFunctions
  · have each : ∀ s ∈ diagSubFunctions,
        (decodeDiag id s data).wf = true ∧ encodeBody (decodeDiag id s data) = bodyQ4 id .f08 s data := by
      simp only [diagSubFunctions, List.forall_mem_cons, List.not_mem_nil, false_imp_iff, implies_true, and_true]
      exact ⟨⟨rfl, rfl⟩, ⟨rfl, rfl⟩, ⟨rfl, rfl⟩, ⟨rfl, rfl⟩, ⟨rfl, rfl⟩, ⟨rfl, rfl⟩, ⟨rfl, rfl⟩, ⟨rfl, rfl⟩, ⟨rfl, rfl⟩,
        ⟨rfl, rfl⟩, ⟨rfl, rfl⟩, ⟨rfl, rfl⟩⟩
    exact each sub own
  · rw [decodeDiag_other own]
    exact ⟨decide_eq_true own, rfl⟩

/-- `bytes` begin with the body of the well-formed instruction `i`; two bytes and `tail` follow. -/
def BeginsWithFrame (bytes : List Byte) (i : Instr) (tail : List Byte) : Prop :=
  i.wf = true ∧ ∃ x y, bytes = encodeBody i ++ x :: y :: tail

theorem beginsWithFrame_of_takeQ4 {id : Byte} {f : FunctionCode} {mk : Word → Word → Instr} {rest tail : List Byte}
    {i : Instr} (built : ∀ a b, (mk a b).wf = true ∧ encodeBody (mk a b) = bodyQ4 id f a b)
    (h : (takeQ4 rest).map (fun q => (mk q.1 q.2.1, q.2.2)) = .ok (i, tail)) :
    BeginsWithFrame (id :: functionByte f :: rest) i tail := by
  obtain ⟨⟨a, b, tail'⟩, taken, made⟩ := map_eq_ok h
  cases made
  obtain ⟨x, y, rfl⟩ := takeQ4_eq_ok taken
  obtain ⟨hwf, body⟩ := built a b
  exact ⟨hwf, x, y, by rw [body]; rfl⟩

theorem beginsWithFrame_of_takeQ0 {id : Byte} {f : FunctionCode} {i0 i : Instr} {rest tail : List Byte}
    (built : i0.wf = true ∧ encodeBody i0 = [id, functionByte f])
    (h : (takeQ0 rest).map (fun tail => (i0, tail)) = .ok (i, tail)) :
    BeginsWithFrame (id :: functionByte f :: rest) i tail := by
  obtain ⟨tail', taken, made⟩ := map_eq_ok h
  cases made
  obtain ⟨x, y, rfl⟩ := takeQ0_eq_ok taken
  obtain ⟨hwf, body⟩ := built
  exact ⟨hwf, x, y, by rw [body]; rfl⟩

theorem beginsWithFrame_of_takeQV {id : Byte} {f : FunctionCode} {mk : Word → Word → Byte → List Byte → Instr}
    {rest tail : List Byte} {i : Instr}
    (built : ∀ a n bc data, (mk a n bc data).wf = decide (data.length = bc.toNat)
      ∧ encodeBody (mk a n bc data) = bodyQV id f a n bc data)
    (h : (takeQV rest).map (fun q => (mk q.address q.count q.byteCount q.data, q.tail)) = .ok (i, tail)) :
    BeginsWithFrame (id :: functionByte f :: rest) i tail := by
  obtain ⟨q, taken, made⟩ := map_eq_ok h
  cases made
  obtain ⟨counted, x, y, rfl⟩ := takeQV_eq_ok taken
  obtain ⟨hwf, body⟩ := built q.address q.count q.byteCount q.data
  exact ⟨by rw [hwf]; exact decide_eq_true counted, x, y, by rw [body]; rfl⟩

theorem beginsWithFrame_of_decodeFields {id : Byte} {f : FunctionCode} {rest tail : List Byte} {i : Instr}
    (h : decodeFields id f rest = .ok (i, tail)) : BeginsWithFrame (id :: functionByte f :: rest) i tail := by
  cases f with
  | f01 => exact beginsWithFrame_of_takeQ4 (mk := .rdcoil id) (fun _ _ => ⟨rfl, rfl⟩) h
  | f02 => exact beginsWithFrame_of_takeQ4 (mk := .rddi id) (fun _ _ => ⟨rfl, rfl⟩) h
  | f03 => exact beginsWithFrame_of_takeQ4 (mk := .rdhr id) (fun _ _ => ⟨rfl, rfl⟩) h
  | f04 => exact beginsWithFrame_of_takeQ4 (mk := .rdir id) (fun _ _ => ⟨rfl, rfl⟩) h
  | f05 => exact beginsWithFrame_of_takeQ4 (mk := .wrcoil id) (fun _ _ => ⟨rfl, rfl⟩) h
  | f06 => exact beginsWithFrame_of_takeQ4 (mk := .wrhr id) (fun _ _ => ⟨rfl, rfl⟩) h
  | f08 => exact beginsWithFrame_of_takeQ4 (mk := decodeDiag id) (decodeDiag_spec id) h
  | f11 => exact beginsWithFrame_of_takeQ0 ⟨rfl, rfl⟩ h
  | f12 => exact beginsWithFrame_of_takeQ0 ⟨rfl, rfl⟩ h
  | f15 => exact beginsWithFrame_of_takeQV (mk := .wrcoils id) (fun _ _ _ _ => ⟨rfl, rfl⟩) h
  | f16 => exact beginsWithFrame_of_takeQV (mk := .wrhrs id) (fun _ _ _ _ => ⟨rfl, rfl⟩) h
  | f17 => exact beginsWithFrame_of_takeQ0 ⟨rfl, rfl⟩ h

/-- Everything a successful decoding says of the bytes. -/
theorem beginsWithFrame_of_decode {bytes tail : List Byte} {i : Instr} (h : decode bytes = .ok (i, tail)) :
    BeginsWithFrame bytes i tail := by
  unfold decode at h
  split at h
  · next id fc rest =>
    cases mapped : functionOfByte fc with
    | none => rw [mapped] at h; cases h
    | some f =>
      rw [mapped] at h
      rw [← functionByte_of_functionOfByte mapped]
      exact beginsWithFrame_of_decodeFields h
  · cases h

/-! ## How many bytes a frame takes (R95, R96) -/

/-- The number of bytes of a frame after its function code, read off those bytes: `FIXED_LEN`, and for functions 15 and 16
the byte-count and two more. -/
def restLength (f : FunctionCode) (rest : List Byte) : Nat :=
  fixedLen f + if hasVariablePart f = true then (rest.getD 4 0x00#8).toNat + 2 else 0

theorem hasVariablePart_iff (f : FunctionCode) :
    hasVariablePart f = true ↔ functionByte f = 0x0F#8 ∨ functionByte f = 0x10#8 := by
  cases f <;> decide

theorem fixedLen_of_variable {f : FunctionCode} (h : hasVariablePart f = true) : fixedLen f = 5 := by
  cases f with
  | f15 | f16 => rfl
  | _ => cases h

theorem restLength_of_variable {f : FunctionCode} (h : hasVariablePart f = true) (rest : List Byte) :
    restLength f rest = 5 + ((rest.getD 4 0x00#8).toNat + 2) := by
  rw [restLength, if_pos h, fixedLen_of_variable h]

theorem restLength_of_fixed {f : FunctionCode} (h : ¬ hasVariablePart f = true) (rest : List Byte) :
    restLength f rest = fixedLen f := by
  rw [restLength, if_neg h, Nat.add_zero]

/-- The rest of a frame with a variable part: four bytes, the byte-count, and as many as it says, two more and no fewer. -/
theorem exists_variable_shape {tail : List Byte} (long : tail.length = 5 + ((tail.getD 4 0x00#8).toNat + 2)) :
    ∃ (fields : List Byte) (bc : Byte) (more : List Byte) (b : Byte), tail = fields ++ ([bc] ++ (more ++ [b]))
      ∧ fields.length = 4 ∧ more.length + 1 = bc.toNat + 2 := by
  have enough : 4 < tail.length := by omega
  obtain empty | ⟨more, b, rest⟩ := List.eq_nil_or_concat (tail.drop 5)
  · have := List.drop_eq_nil_iff.1 empty
    omega
  · rw [List.concat_eq_append] at rest
    refine ⟨tail.take 4, tail[4], more, b, ?_, List.length_take_of_le (by omega), ?_⟩
    · rw [← rest, List.singleton_append, ← List.drop_eq_getElem_cons, List.take_append_drop]
    · have count : (tail.drop 5).length = tail.length - 5 := List.length_drop
      rw [rest, List.length_append, List.length_singleton, long, List.getD_eq_getElem _ _ enough] at count
      omega

theorem takeQ4_of_length {rest : List Byte} (long : 6 ≤ rest.length) : ∃ a b, takeQ4 rest = .ok (a, b, rest.drop 6) := by
  obtain ⟨front, tail, rfl, six⟩ : ∃ front tail, rest = front ++ tail ∧ front.length = 6 :=
    ⟨rest.take 6, rest.drop 6, (List.take_append_drop 6 rest).symm, List.length_take_of_le long⟩
  match front, six with
  | [h1, l1, h2, l2, x, y], _ => exact ⟨be16 h1 l1, be16 h2 l2, rfl⟩

theorem takeQ0_of_length {rest : List Byte} (long : 2 ≤ rest.length) : takeQ0 rest = .ok (rest.drop 2) := by
  match rest, long with
  | _ :: _ :: _, _ => rfl

theorem takeQV_of_length {rest : List Byte} (long : 5 + ((rest.getD 4 0x00#8).toNat + 2) ≤ rest.length) :
    ∃ q, takeQV rest = .ok q ∧ q.tail = rest.drop (5 + ((rest.getD 4 0x00#8).toNat + 2)) := by
  obtain ⟨front, tail, rfl, five⟩ : ∃ front tail, rest = front ++ tail ∧ front.length = 5 :=
    ⟨rest.take 5, rest.drop 5, (List.take_append_drop 5 rest).symm, List.length_take_of_le (by omega)⟩
  match front, five with
  | [h1, l1, h2, l2, bc], _ =>
    have enough : ¬ tail.length < bc.toNat + 2 := by
      simp only [List.length_append, List.length_cons, List.length_nil] at long
      simpa using long
    exact ⟨_, if_neg enough, (List.drop_length_add_append (l₁ := [h1, l1, h2, l2, bc]) _).symm⟩

/-- Enough bytes behind a supported function code always make a frame, and what follows it is left. -/
theorem decodeFields_of_length (id : Byte) (f : FunctionCode) {rest : List Byte} (long : restLength f rest ≤ rest.length) :
    ∃ i, decodeFields id f rest = .ok (i, rest.drop (restLength f rest)) := by
  cases f with
  | f01 | f02 | f03 | f04 | f05 | f06 | f08 =>
    obtain ⟨a, b, taken⟩ := takeQ4_of_length long
    rw [decodeFields, taken]
    exact ⟨_, rfl⟩
  | f11 | f12 | f17 =>
    rw [decodeFields, takeQ0_of_length long]
    exact ⟨_, rfl⟩
  | f15 | f16 =>
    obtain ⟨q, taken, left⟩ := takeQV_of_length long
    rw [decodeFields, taken]
    exact ⟨_, congrArg (fun tail => Except.ok (_, tail)) left⟩

/-- 262 bytes after the function code are enough for every frame (R103). -/
theorem restLength_le (f : FunctionCode) (rest : List Byte) : restLength f rest ≤ 262 := by
  have byte := (rest.getD 4 0x00#8).isLt
  unfold restLength
  cases f <;> simp only [fixedLen, hasVariablePart, Bool.false_eq_true, if_false, if_true] <;> omega

/-! ## The obligations -/

/-- Settles O16: the two CRC bytes stand between the body and what follows, and the decoder passes over them. -/
theorem decodeOfEncodeIsTheInstruction : Obligations.DecodeOfEncodeIsTheInstruction := by
  intro i rest hwf
  rw [encode, appendCrc_append]
  exact decode_encodeBody hwf _ _ rest

/-- Settles O17: the decoded frame is the body and two more bytes, which a good CRC fixes. -/
theorem encodeOfDecodeIsTheFrame : Obligations.EncodeOfDecodeIsTheFrame := by
  intro frame i h
  obtain ⟨hwf, x, y, rfl⟩ := beginsWithFrame_of_decode h
  have cut : (encodeBody i ++ [x, y]).length - 2 = (encodeBody i).length := by simp
  refine ⟨hwf, by rw [cut, List.take_left], fun good => ?_⟩
  rw [crcOk, decide_eq_true_iff, cut, List.take_left, List.drop_left] at good
  rw [encode, appendCrc, good]

/-- Settles O19: a byte outside the map stops the decoder; inside it, no frame needs more than 262 further bytes. -/
theorem onlyTheTwelveFunctionsDecode : Obligations.OnlyTheTwelveFunctionsDecode := by
  refine fun id fc rest => ⟨fun unsupported => decode_unsupported id unsupported rest, fun supported long => ?_⟩
  obtain ⟨f, rfl⟩ := (mem_supportedBytes_iff fc).1 supported
  obtain ⟨i, decoded⟩ := decodeFields_of_length id f ((restLength_le f rest).trans long)
  rw [← decode_functionByte] at decoded
  obtain ⟨hwf, -⟩ := beginsWithFrame_of_decode decoded
  exact ⟨i, _, decoded, hwf⟩

/-- Settles O15: a byte outside the map has no entry; the others are the twelve wire bytes, looked up one by one. -/
theorem fixedLengthTable : Obligations.FixedLengthTable := by
  intro b
  by_cases supported : b ∈ supportedBytes
  · obtain ⟨f, rfl⟩ := (mem_supportedBytes_iff b).1 supported
    rw [functionOfByte_functionByte]
    cases f <;> rfl
  · rw [functionOfByte_eq_none supported]
    simp only [supportedBytes, List.mem_cons, List.not_mem_nil, or_false, not_or] at supported
    simp [supported]

/-- Settles O18: each frame is read field by field. -/
theorem writtenFramesDecode : Obligations.WrittenFramesDecode := ⟨rfl, rfl, rfl, rfl, rfl, rfl⟩

end Sys2Proof
end

section
/-! PROOFS. The CRC generator as a linear map (spec/40_crc.md R134, R135): the eight shift steps respect exclusive or and
send nothing but zero to zero, which is why the table form works and why the residue of a good frame is zero. -/

namespace Sys2Proof.Machine

open Sys2Proof

/-! ## The shift steps -/

theorem crcShift_of_even {c : Word} (even : c.getLsbD 0 = false) : crcShift c = c >>> 1 := by
  rw [crcShift, even]; rfl

theorem crcShift_of_odd {c : Word} (odd : c.getLsbD 0 = true) : crcShift c = (c >>> 1) ^^^ 0xA001#16 := by
  rw [crcShift, odd]; rfl

/-- The mask is added once for each odd argument, so over a sum it is added as often as bit 0 of the sum says. -/
theorem crcShift_xor (a b : Word) : crcShift (a ^^^ b) = crcShift a ^^^ crcShift b := by
  have bit : (a ^^^ b).getLsbD 0 = ((a.getLsbD 0) ^^ (b.getLsbD 0)) := BitVec.getLsbD_xor
  have shifted : (a ^^^ b) >>> 1 = (a >>> 1) ^^^ (b >>> 1) := BitVec.ushiftRight_xor_distrib ..
  cases ha : a.getLsbD 0 <;> cases hb : b.getLsbD 0 <;> rw [ha, hb] at bit
  · rw [crcShift_of_even bit, crcShift_of_even ha, crcShift_of_even hb, shifted]
  · rw [crcShift_of_odd bit, crcShift_of_even ha, crcShift_of_odd hb, shifted, BitVec.xor_assoc]
  · rw [crcShift_of_odd bit, crcShift_of_odd ha, crcShift_of_even hb, shifted, BitVec.xor_assoc, BitVec.xor_assoc,
      BitVec.xor_comm 0xA001#16]
  · rw [crcShift_of_even bit, crcShift_of_odd ha, crcShift_of_odd hb, shifted]
    rw [← BitVec.xor_assoc, BitVec.xor_assoc (a >>> 1), BitVec.xor_comm 0xA001#16, ← BitVec.xor_assoc, BitVec.xor_assoc,
      BitVec.xor_self, BitVec.xor_zero]

theorem crcShift8_xor (a b : Word) : crcShift8 (a ^^^ b) = crcShift8 a ^^^ crcShift8 b := by
  simp only [crcShift8, crcShift_xor]

/-- Bit 15 of a shift step is bit 0 of its argument: the mask has it and the shift clears it. -/
theorem eq_zero_of_crcShift_eq_zero {c : Word} (h : crcShift c = 0x0000#16) : c = 0x0000#16 := by
  cases hc : c.getLsbD 0 with
  | true =>
    rw [crcShift_of_odd hc] at h
    have top : ((c >>> 1) ^^^ 0xA001#16).getLsbD 15 = true := by simp
    rw [h] at top
    cases top
  | false =>
    rw [crcShift_of_even hc] at h
    refine BitVec.eq_of_getLsbD_eq fun j bound => ?_
    cases j with
    | zero => rw [hc]; rfl
    | succ j =>
      have bit := congrArg (·.getLsbD j) h
      simpa [Nat.add_comm] using bit

theorem crcShift8_eq_zero_iff (c : Word) : crcShift8 c = 0x0000#16 ↔ c = 0x0000#16 := by
  constructor
  · intro h
    iterate 8 apply eq_zero_of_crcShift_eq_zero
    exact h
  · rintro rfl
    decide

theorem crcShift8_injective {a b : Word} (h : crcShift8 a = crcShift8 b) : a = b := by
  have kernel : crcShift8 (a ^^^ b) = 0x0000#16 := by rw [crcShift8_xor, h, BitVec.xor_self]
  exact BitVec.xor_eq_zero_iff.1 ((crcShift8_eq_zero_iff _).1 kernel)

/-- A high byte moves down unmasked: none of the eight steps finds bit 0 set. -/
theorem crcShift8_highByte (b : Byte) : crcShift8 (b.setWidth 16 <<< 8) = b.setWidth 16 := by
  have each : ∀ n, n < 256 → crcShift8 ((BitVec.ofNat 8 n).setWidth 16 <<< 8) = (BitVec.ofNat 8 n).setWidth 16 := by
    decide +kernel
  simpa using each b.toNat b.isLt

/-! ## The halves of the register -/

/-- The register as its two bytes. -/
theorem eq_hi8_xor_lo8 (c : Word) : c = (hi8 c).setWidth 16 <<< 8 ^^^ (lo8 c).setWidth 16 := by
  refine BitVec.eq_of_getLsbD_eq fun j bound => ?_
  by_cases low : j < 8
  · simp [hi8, lo8, low, bound]
  · have back : 8 + (j - 8) = j := by omega
    have high : j - 8 < 8 := by omega
    simp [hi8, lo8, low, bound, back, high]

theorem hi8_join (h l : Byte) : hi8 (h.setWidth 16 <<< 8 ^^^ l.setWidth 16) = h := by
  refine BitVec.eq_of_getLsbD_eq fun j bound => ?_
  simp [hi8, bound, show 8 + j < 16 by omega]

theorem lo8_join (h l : Byte) : lo8 (h.setWidth 16 <<< 8 ^^^ l.setWidth 16) = l := by
  refine BitVec.eq_of_getLsbD_eq fun j bound => ?_
  simp [lo8, bound, show j < 16 by omega]

theorem eq_join_iff (c : Word) (h l : Byte) : c = h.setWidth 16 <<< 8 ^^^ l.setWidth 16 ↔ l = lo8 c ∧ h = hi8 c := by
  constructor
  · rintro rfl
    rw [hi8_join, lo8_join]
    exact ⟨rfl, rfl⟩
  · rintro ⟨rfl, rfl⟩
    exact eq_hi8_xor_lo8 c

/-- The high byte moves down, the low byte is run through the steps by itself. -/
theorem crcShift8_eq (c : Word) : crcShift8 c = (hi8 c).setWidth 16 ^^^ crcShift8 ((lo8 c).setWidth 16) := by
  rw [← crcShift8_highByte, ← crcShift8_xor, ← eq_hi8_xor_lo8]

/-! ## The residue (R134) -/

/-- Only one byte clears the register: the register itself, in its low half. -/
theorem crcUpdate_eq_zero_iff (c : Word) (b : Byte) : crcUpdate c b = 0x0000#16 ↔ c = b.setWidth 16 := by
  rw [crcUpdate, crcShift8_eq_zero_iff, BitVec.xor_eq_zero_iff]

/-- Only the register's low byte leaves its high byte, moved down. -/
theorem crcUpdate_eq_byte_iff (c : Word) (x y : Byte) : crcUpdate c x = y.setWidth 16 ↔ x = lo8 c ∧ y = hi8 c := by
  rw [← eq_join_iff, crcUpdate]
  constructor
  · intro same
    have argument := crcShift8_injective (same.trans (crcShift8_highByte y).symm)
    rw [← argument, BitVec.xor_assoc, BitVec.xor_self, BitVec.xor_zero]
  · intro join
    rw [join, BitVec.xor_assoc, BitVec.xor_self, BitVec.xor_zero, crcShift8_highByte]

/-- A body followed by two bytes leaves zero exactly when they are its CRC, low byte first. -/
theorem crc16_append_pair_eq_zero_iff (body : List Byte) (x y : Byte) :
    crc16 (body ++ [x, y]) = 0x0000#16 ↔ x = lo8 (crc16 body) ∧ y = hi8 (crc16 body) := by
  rw [crc16_append]
  exact (crcUpdate_eq_zero_iff _ y).trans (crcUpdate_eq_byte_iff _ x y)

/-! ## The table (R135) -/

theorem crcTable_getD {i : Nat} (entry : i < 256) : crcTable.getD i 0x0000#16 = crcShift8 (BitVec.ofNat 16 i) := by
  have each : ∀ i, i < 256 → crcTable.getD i 0x0000#16 = crcShift8 (BitVec.ofNat 16 i) := by decide +kernel
  exact each i entry

theorem shiftRight_eight_eq (c : Word) (b : Byte) : c >>> 8 = (hi8 (c ^^^ b.setWidth 16)).setWidth 16 := by
  refine BitVec.eq_of_getLsbD_eq fun j bound => ?_
  by_cases low : j < 8
  · simp [hi8, low, bound]
  · simp [hi8, low, BitVec.getLsbD_of_ge c (8 + j) (by omega)]

theorem and_00FF_eq (c : Word) : c &&& 0x00FF#16 = (lo8 c).setWidth 16 := by
  apply BitVec.eq_of_toNat_eq
  have mask := Nat.and_two_pow_sub_one_eq_mod c.toNat 8
  rw [BitVec.toNat_and, BitVec.toNat_setWidth, toNat_lo8]
  have byte : c.toNat % 256 < 256 := Nat.mod_lt _ (by decide)
  rw [Nat.mod_eq_of_lt (a := c.toNat % 256) (by omega)]
  exact mask

/-! ## The obligations -/

/-- Settles O3: the frame is cut before its last two bytes, and both sides compare these with the CRC of the rest. -/
theorem crcResidueZeroExactlyWhenFramePasses : Obligations.CrcResidueZeroExactlyWhenFramePasses := by
  intro frame long
  rw [crcOk_iff_trailing_bytes frame 0x00#8 long, ← crc16_append_pair_eq_zero_iff, ← drop_length_sub_two frame _ long,
    List.take_append_drop]

/-- Settles O4: the entries are evaluated; the loop body is `crcShift8_eq` at the register with the byte added. -/
theorem crcTableFormEqualsBitLoop : Obligations.CrcTableFormEqualsBitLoop := by
  refine ⟨by decide +kernel, fun i => crcTable_getD, fun c b => ?_⟩
  have entry : ((lo8 (c ^^^ b.setWidth 16)).setWidth 16).toNat < 256 := by
    rw [BitVec.toNat_setWidth]
    have := (lo8 (c ^^^ b.setWidth 16)).isLt
    omega
  rw [crcTableUpdate, and_00FF_eq, crcTable_getD entry, BitVec.ofNat_toNat, BitVec.setWidth_eq, shiftRight_eight_eq c b,
    crcUpdate, crcShift8_eq (c ^^^ b.setWidth 16)]

end Sys2Proof.Machine
end

section
/-! PROOFS. The two bank operations that write (spec/41_store_ops.md R141, R143): what a written range reads as, and that
a unit written is the unit read back. -/

namespace Sys2Proof.Machine

open Sys2Proof

/-! ## What a written range reads as -/

/-- The whole of a written range reads back. -/
theorem bankReadRange_bankWriteRange {w : Nat} {bank : Bank w} (canonical : bankWf bank = true) (a : Nat)
    (vs : List (BitVec w)) : bankReadRange (bankWriteRange bank a vs) a vs.length = vs := by
  apply List.ext_getElem
  · simp
  · intro i listed stored
    rw [bankReadRange_getElem _ _ _ listed, bankRead_bankWriteRange_in canonical a vs stored]

theorem bankRead_write_unpackBits {bank : Bank 1} (canonical : bankWf bank = true) (a n : Nat) (data : List Byte) {i : Nat}
    (addressed : i < n) : bankRead (bankWriteRange bank a (unpackBits data n)) (a + i) = packedBit data i := by
  have listed : i < (unpackBits data n).length := by simpa using addressed
  rw [bankRead_bankWriteRange_in canonical a _ listed, unpackBits_getElem]

theorem bankRead_write_bytesToRegisters {bank : Bank 16} (canonical : bankWf bank = true) (a n : Nat) (data : List Byte)
    {i : Nat} (addressed : i < n) :
    bankRead (bankWriteRange bank a (bytesToRegisters data n)) (a + i) = packedRegister data i := by
  have listed : i < (bytesToRegisters data n).length := by simpa using addressed
  rw [bankRead_bankWriteRange_in canonical a _ listed, bytesToRegisters_getElem]

@[simp] theorem packedBit_getLsbD_zero (data : List Byte) (i : Nat) :
    (packedBit data i).getLsbD 0 = (data.getD (i / 8) 0x00#8).getLsbD (i % 8) := by
  simp [packedBit]

/-! ## A success of SetBits or SetRegisters -/

theorem setBits_eq_ok {bank bank' : Bank 1} {cap a n : Nat} {data : List Byte} (h : setBits bank cap a n data = .ok bank') :
    a + n ≤ cap ∧ bank' = bankWriteRange bank a (unpackBits data n) := by
  obtain ⟨-, failed⟩ | ⟨inside, written⟩ := setBits_cases bank cap a n data
  · rw [failed] at h; cases h
  · rw [written] at h; cases h; exact ⟨inside, rfl⟩

theorem setRegisters_eq_ok {bank bank' : Bank 16} {cap a n : Nat} {data : List Byte}
    (h : setRegisters bank cap a n data = .ok bank') :
    a + n ≤ cap ∧ bank' = bankWriteRange bank a (bytesToRegisters data n) := by
  obtain ⟨-, failed⟩ | ⟨inside, written⟩ := setRegisters_cases bank cap a n data
  · rw [failed] at h; cases h
  · rw [written] at h; cases h; exact ⟨inside, rfl⟩

theorem getBits_of_le (bank : Bank 1) {cap a n : Nat} (inside : a + n ≤ cap) :
    getBits bank cap a n = .ok (packBits (bankReadRange bank a n)) := by
  rw [getBits, if_neg (by omega)]

theorem getRegisters_of_le (bank : Bank 16) {cap a n : Nat} (inside : a + n ≤ cap) :
    getRegisters bank cap a n = .ok (registersToBytes (bankReadRange bank a n)) := by
  rw [getRegisters, if_neg (by omega)]

/-! ## The obligations -/

/-- Settles O7: the two answers of SetBits exclude each other; in range, the reads after the write range by range. -/
theorem setBitsWritesOnlyTheAddressedBits : Obligations.SetBitsWritesOnlyTheAddressedBits := by
  intro bank cap address length data canonical _
  obtain ⟨outside, failed⟩ | ⟨inside, written⟩ := setBits_cases bank cap address length data
  · exact ⟨fun _ => failed, fun inside => absurd outside (Nat.not_lt.2 inside)⟩
  · refine ⟨fun outside => absurd outside (Nat.not_lt.2 inside), fun _ => ⟨_, written, fun i addressed => ?_,
      fun a other => bankRead_bankWriteRange_out bank address _ (by simpa using other),
      bankWf_bankWriteRange canonical _ _⟩⟩
    rw [bankRead_write_unpackBits canonical _ _ _ addressed, packedBit_getLsbD_zero]

/-- Settles O9: as O7, register by register. -/
theorem setRegistersWritesOnlyTheAddressedRegisters : Obligations.SetRegistersWritesOnlyTheAddressedRegisters := by
  intro bank cap address length data canonical _
  obtain ⟨outside, failed⟩ | ⟨inside, written⟩ := setRegisters_cases bank cap address length data
  · exact ⟨fun _ => failed, fun inside => absurd outside (Nat.not_lt.2 inside)⟩
  · exact ⟨fun outside => absurd outside (Nat.not_lt.2 inside), fun _ => ⟨_, written,
      fun i addressed => bankRead_write_bytesToRegisters canonical _ _ _ addressed,
      fun a other => bankRead_bankWriteRange_out bank address _ (by simpa using other),
      bankWf_bankWriteRange canonical _ _⟩⟩

/-- Settles O10: the range written reads back whole, and packing undoes the unpacking of one unit. -/
theorem writtenUnitsReadBack : Obligations.WrittenUnitsReadBack := by
  constructor
  · intro bank bank' cap a v canonical written
    obtain ⟨inside, rfl⟩ := setBits_eq_ok written
    have back := bankReadRange_bankWriteRange canonical a (unpackBits [if v = true then 0x01#8 else 0x00#8] 1)
    rw [unpackBits_length] at back
    rw [getBits_of_le _ inside, back]
    cases v <;> decide
  · intro bank bank' cap a v canonical written
    obtain ⟨inside, rfl⟩ := setRegisters_eq_ok written
    have back := bankReadRange_bankWriteRange canonical a (bytesToRegisters [hi8 v, lo8 v] 1)
    rw [bytesToRegisters_length] at back
    have unit : bytesToRegisters [hi8 v, lo8 v] 1 = [v] := congrArg (· :: []) (be16_hi8_lo8 v)
    rw [getRegisters_of_le _ inside, back, unit]
    rfl

end Sys2Proof.Machine
end

section
/-! PROOFS. The host's reads and writes through a step (spec/41_store_ops.md R145, R146): the unit a flat address names,
and what a write of it changes. -/

namespace Sys2Proof.Machine

open Sys2Proof

/-! ## A step that takes a host operation -/

/-- A host operation does not wait for the session agent. -/
theorem step_host {s : State} {op : HostOp} {rest : List Input} (hc : cancelCheckFires s = false)
    (hi : s.inputs = .host op :: rest) : step s = hostStep op { s with inputs := rest } := by
  obtain ⟨fires, -⟩ | ⟨-, none, -⟩ | ⟨-, x, rest', some, taken⟩ := step_cases s
  · rw [hc] at fires; cases fires
  · rw [hi] at none; cases none
  · rw [hi] at some; cases some; exact taken

/-! ## The unit a flat address names -/

theorem flatRead_eq (s : State) (f : Int) : flatRead s f = match flatRange f with
    | some (b, o) => if o < bankCap s.cfg b then unitAt s b o else 0x0000#16
    | none => 0x0000#16 := by
  unfold flatRead flatResolve
  rcases flatRange f with _ | ⟨b, o⟩
  · rfl
  · by_cases inside : o < bankCap s.cfg b
    · simp only [if_pos inside]
    · simp only [if_neg inside]

/-- The host has taken its turn and been told `v` (log 11). -/
def afterHostRead (rest : List Input) (v : Word) (s : State) : State :=
  { s with inputs := rest, hostReads := s.hostReads ++ [v] }

/-- FlatRead depends on the store and the capacities alone. -/
theorem flatRead_congr {s t : State} (hmem : t.mem = s.mem) (hcfg : t.cfg = s.cfg) (f : Int) :
    flatRead t f = flatRead s f := by
  simp only [flatRead, hcfg, unitAt_congr hmem]

theorem flatWrite_of_inside {s : State} {f : Int} {b : BankId} {o : Nat} (named : flatRange f = some (b, o))
    (inside : o < bankCap s.cfg b) (v : Word) : flatWrite f v s = setUnit b o v s := by
  rw [flatWrite, flatResolve, named]
  simp only [if_pos inside]

theorem flatWrite_of_outside {s : State} {f : Int} {b : BankId} {o : Nat} (named : flatRange f = some (b, o))
    (outside : ¬ o < bankCap s.cfg b) (v : Word) : flatWrite f v s = s := by
  apply flatWrite_of_flatResolve_none
  rw [flatResolve, named]
  simp only [if_neg outside]

/-! ## Units after a write -/

theorem unitAt_setBitBank_other (s : State) {b : BitBank} {b' : BankId} (other : b' ≠ .bits b) (v : Bank 1) (a : Nat) :
    unitAt (setBitBank b v s) b' a = unitAt s b' a := by
  cases b' with
  | bits b' => rw [unitAt, unitAt, bitBank_setBitBank_of_ne s (fun same => other (congrArg BankId.bits same))]
  | regs b' => rw [unitAt, unitAt, regBank_setBitBank]

theorem unitAt_setRegBank_other (s : State) {b : RegBank} {b' : BankId} (other : b' ≠ .regs b) (v : Bank 16) (a : Nat) :
    unitAt (setRegBank b v s) b' a = unitAt s b' a := by
  cases b' with
  | bits b' => rw [unitAt, unitAt, bitBank_setRegBank]
  | regs b' => rw [unitAt, unitAt, regBank_setRegBank_of_ne s (fun same => other (congrArg BankId.regs same))]

/-- A bit bank that reads as before outside a range leaves every other unit of the store alone. -/
theorem sameUnitsBut_setBitBank {s : State} {b : BitBank} {bank : Bank 1} {a n : Nat}
    (outside : ∀ a', a' < a ∨ a + n ≤ a' → bankRead bank a' = bankRead (bitBank s b) a') :
    SameUnitsBut (.bits b) a n s (setBitBank b bank s) := by
  intro b' a' untouched
  by_cases same : b' = .bits b
  · subst same
    rw [unitAt, unitAt, bitBank_setBitBank, outside a' (untouched rfl)]
  · exact unitAt_setBitBank_other s same bank a'

theorem sameUnitsBut_setRegBank {s : State} {b : RegBank} {bank : Bank 16} {a n : Nat}
    (outside : ∀ a', a' < a ∨ a + n ≤ a' → bankRead bank a' = bankRead (regBank s b) a') :
    SameUnitsBut (.regs b) a n s (setRegBank b bank s) := by
  intro b' a' untouched
  by_cases same : b' = .regs b
  · subst same
    rw [unitAt, unitAt, regBank_setRegBank, outside a' (untouched rfl)]
  · exact unitAt_setRegBank_other s same bank a'

theorem sameUnitsBut_setUnit (s : State) (b : BankId) (o : Nat) (v : Word) : SameUnitsBut b o 1 s (setUnit b o v s) := by
  cases b with
  | bits b => exact sameUnitsBut_setBitBank fun a' other => bankRead_bankWrite_other _ (by omega) _
  | regs b => exact sameUnitsBut_setRegBank fun a' other => bankRead_bankWrite_other _ (by omega) _

theorem unitAt_setUnit {s : State} (canonical : s.mem.wf = true) (b : BankId) (o : Nat) (v : Word) :
    unitAt (setUnit b o v s) b o = match b with
      | .bits _ => if v = 0x0000#16 then 0x0000#16 else 0x0001#16
      | .regs _ => v := by
  cases b with
  | bits b =>
    rw [setUnit, unitAt, bitBank_setBitBank, bankRead_bankWrite_same (bankWf_bitBank canonical b)]
    by_cases zero : v = 0x0000#16 <;> simp [zero]
  | regs b => rw [setUnit, unitAt, regBank_setRegBank, bankRead_bankWrite_same (bankWf_regBank canonical b)]

/-- A host write reaches the store alone (R41). -/
theorem setUnit_eq (b : BankId) (o : Nat) (v : Word) (s : State) :
    setUnit b o v s = { s with mem := (setUnit b o v s).mem } := by
  rcases b with (_ | _) | (_ | _) <;> rfl

theorem flatWrite_eq (f : Int) (v : Word) (s : State) : flatWrite f v s = { s with mem := (flatWrite f v s).mem } := by
  unfold flatWrite
  split
  · rfl
  · exact setUnit_eq _ _ _ _

/-- FlatWrite seen from the store: one unit of one bank takes the value, or every unit reads as before. -/
theorem flatWrite_units {s : State} (canonical : s.mem.wf = true) (f : Int) (v : Word) : match flatRange f with
    | some (b, o) =>
      if o < bankCap s.cfg b then
        SameUnitsBut b o 1 s (flatWrite f v s)
          ∧ unitAt (flatWrite f v s) b o = (match b with
              | .bits _ => if v = 0x0000#16 then 0x0000#16 else 0x0001#16
              | .regs _ => v)
      else SameUnits s (flatWrite f v s)
    | none => SameUnits s (flatWrite f v s) := by
  rcases named : flatRange f with _ | ⟨b, o⟩
  · have nowhere : flatResolve s.cfg f = none := flatResolve_of_flatRange_none s.cfg named
    simp only [flatWrite_of_flatResolve_none v nowhere]
    exact fun _ _ => rfl
  · by_cases inside : o < bankCap s.cfg b
    · simp only [if_pos inside, flatWrite_of_inside named inside]
      exact ⟨sameUnitsBut_setUnit s b o v, unitAt_setUnit canonical b o v⟩
    · simp only [if_neg inside, flatWrite_of_outside named inside]
      exact fun _ _ => rfl

/-! ## The obligations -/

/-- Settles O13: the host's answer is FlatRead's, which does not depend on the inputs still to come. -/
theorem hostFlatReadReturnsTheUnit : Obligations.HostFlatReadReturnsTheUnit := by
  intro s f rest hc hi
  have answer : flatRead { s with inputs := rest } f = _ := (flatRead_congr rfl rfl f).trans (flatRead_eq s f)
  exact (step_host hc hi).trans
    (congrArg (fun v => Host.Outcome.next (afterHostRead rest v s)) answer)

/-- Settles O14: FlatWrite is one SetUnit, or nothing where the address names no unit below its capacity. -/
theorem hostFlatWriteChangesOneUnit : Obligations.HostFlatWriteChangesOneUnit := by
  intro s f v rest hc canonical hi
  exact ⟨_, step_host hc hi, flatWrite_eq f v _, flatWrite_units (s := { s with inputs := rest }) canonical f v⟩

end Sys2Proof.Machine
end

section
/-! PROOFS. Every instruction as one transaction (spec/47_receiver.md R286 to R290, R297): the handler of each instruction,
everything a handler can answer and change, and how a transaction ends. -/

namespace Sys2Proof.Machine

open Sys2Proof

/-! ## The handler of an instruction -/

/-- The header of an instruction's reply (R98). -/
def headerOf (i : Instr) : Header := ⟨instrId i, instrFunction i⟩

/-- The handler that runs for an instruction; `exec_eq` ties it to `exec`. -/
def handlerOf : Instr → State → HandlerResult
  | .rdcoil _ address count => readBitsHandler .coils address count
  | .rddi _ address count => readBitsHandler .discreteInputs address count
  | .rdhr _ address count => readRegistersHandler .holdingRegisters address count
  | .rdir _ address count => readRegistersHandler .inputRegisters address count
  | .wrcoil _ address value => wrcoilHandler address value
  | .wrhr _ address value => wrhrHandler address value
  | .diagEcho _ data => fun s => .reply s (twoFields 0x0000#16 data) false
  | .diagRestart _ data => restartHandler data
  | .diagRdreg _ _ => fun s => returnValue 0x0002#16 s.diagnosticRegister s
  | .diagListen _ _ => fun s => .noReply (setListenOnly true s)
  | .diagClear _ data => fun s => .reply (clearCounters s) (twoFields 0x000A#16 data) true
  | .diagMsg11 _ _ => fun s => returnValue 0x000B#16 s.messageCount s
  | .diagCrc12 _ _ => fun s => returnValue 0x000C#16 s.crcErrorCount s
  | .diagExc13 _ _ => fun s => returnValue 0x000D#16 s.exceptionErrorCount s
  | .diagMsg14 _ _ => fun s => returnValue 0x000E#16 s.messageCount s
  | .diagNoresp15 _ _ => fun s => returnValue 0x000F#16 s.noResponseCount s
  | .diagExc17 _ _ => fun s => returnValue 0x0011#16 s.exceptionErrorCount s
  | .diagZero18 _ _ => fun s => returnValue 0x0012#16 0x0000#16 s
  | .diagOther _ _ _ => fun _ => .exception .unsupportedFunction
  | .evcnt _ => fun s => .reply s (twoFields 0x0000#16 s.eventCount) false
  | .evlog _ => fun s => .reply s (eventLogPayload s.eventCount s.messageCount) false
  | .wrcoils _ address count byteCount data => wrcoilsHandler address count byteCount data
  | .wrhrs _ address count byteCount data => wrhrsHandler address count byteCount data
  | .slvid _ => fun s => .reply s (slaveIdPayload s.cfg.slaveId) false

/-- R297 said once: every instruction is the transaction of its header and its handler. -/
theorem exec_eq (i : Instr) (s : State) : exec i s = .next (transaction (headerOf i) (handlerOf i) s) := by
  cases i <;> rfl

/-! ## Everything the four bank handlers can answer -/

theorem readBitsHandler_cases (b : BitBank) (address count : Word) (s : State) :
    (2040 < count.toNat ∧ readBitsHandler b address count s = .exception .invalidParameter) ∨
      (count.toNat ≤ 2040 ∧ bitCap s.cfg b < address.toNat + count.toNat ∧
        readBitsHandler b address count s = .exception .addressOutOfRange) ∨
      (count.toNat ≤ 2040 ∧ address.toNat + count.toNat ≤ bitCap s.cfg b ∧
        readBitsHandler b address count s = .reply s (countedData ((count.toNat + 7) / 8)
          (packBits (bankReadRange (bitBank s b) address.toNat count.toNat))) false) := by
  unfold readBitsHandler bytesForBits
  by_cases large : (count.toNat + 7) / 8 > 255
  · exact .inl ⟨by omega, if_pos large⟩
  · rw [if_neg large]
    obtain ⟨outside, failed⟩ | ⟨inside, got⟩ :=
      getBits_cases (bitBank s b) (bitCap s.cfg b) address.toNat count.toNat
    · exact .inr (.inl ⟨by omega, outside, by rw [failed]⟩)
    · exact .inr (.inr ⟨by omega, inside, by rw [got]⟩)

theorem readRegistersHandler_cases (b : RegBank) (address count : Word) (s : State) :
    (127 < count.toNat ∧ readRegistersHandler b address count s = .exception .invalidParameter) ∨
      (count.toNat ≤ 127 ∧ regCap s.cfg b < address.toNat + count.toNat ∧
        readRegistersHandler b address count s = .exception .addressOutOfRange) ∨
      (count.toNat ≤ 127 ∧ address.toNat + count.toNat ≤ regCap s.cfg b ∧
        readRegistersHandler b address count s = .reply s (countedData (count.toNat * 2)
          (registersToBytes (bankReadRange (regBank s b) address.toNat count.toNat))) false) := by
  unfold readRegistersHandler
  by_cases large : count.toNat * 2 > 255
  · exact .inl ⟨by omega, if_pos large⟩
  · rw [if_neg large]
    obtain ⟨outside, failed⟩ | ⟨inside, got⟩ :=
      getRegisters_cases (regBank s b) (regCap s.cfg b) address.toNat count.toNat
    · exact .inr (.inl ⟨by omega, outside, by rw [failed]⟩)
    · exact .inr (.inr ⟨by omega, inside, by rw [got]⟩)

theorem writeCoils_cases (address count : Word) (length : Nat) (data : List Byte) (s : State) :
    (s.cfg.capCoils < address.toNat + length ∧
        writeCoils address count length data s = .exception .addressOutOfRange) ∨
      (address.toNat + length ≤ s.cfg.capCoils ∧
        writeCoils address count length data s = .reply
          (setBitBank .coils (bankWriteRange s.mem.coils address.toNat (unpackBits data length)) s)
          (twoFields address count) false) := by
  unfold writeCoils
  obtain ⟨outside, failed⟩ | ⟨inside, written⟩ :=
    setBits_cases (bitBank s .coils) (bitCap s.cfg .coils) address.toNat length data
  · exact .inl ⟨outside, by rw [failed]⟩
  · exact .inr ⟨inside, by rw [written]; rfl⟩

theorem writeRegisters_cases (address count : Word) (length : Nat) (data : List Byte) (s : State) :
    (s.cfg.capHR < address.toNat + length ∧
        writeRegisters address count length data s = .exception .addressOutOfRange) ∨
      (address.toNat + length ≤ s.cfg.capHR ∧
        writeRegisters address count length data s = .reply
          (setRegBank .holdingRegisters
            (bankWriteRange s.mem.holdingRegisters address.toNat (bytesToRegisters data length)) s)
          (twoFields address count) false) := by
  unfold writeRegisters
  obtain ⟨outside, failed⟩ | ⟨inside, written⟩ :=
    setRegisters_cases (regBank s .holdingRegisters) (regCap s.cfg .holdingRegisters) address.toNat length data
  · exact .inl ⟨outside, by rw [failed]⟩
  · exact .inr ⟨inside, by rw [written]; rfl⟩

/-! ## What the receiver, the timers and the line see of counting and of a handler: nothing -/

/-- `s` with the store, the mode and the six counters of `u`. -/
def withEngineOf (u s : State) : State :=
  { s with
    mem := u.mem, listenOnly := u.listenOnly, messageCount := u.messageCount, eventCount := u.eventCount,
    crcErrorCount := u.crcErrorCount, diagnosticRegister := u.diagnosticRegister,
    exceptionErrorCount := u.exceptionErrorCount, noResponseCount := u.noResponseCount }

/-- `u` is `s` but for the store, the mode and the six counters. -/
def SameSession (s u : State) : Prop := u = withEngineOf u s

/-- A register that the store, the mode and the counters do not contain is the same. -/
theorem SameSession.field {α : Type} {s u : State} (h : SameSession s u) (register : State → α) :
    register u = register (withEngineOf u s) := congrArg register h

theorem SameSession.trans {s u v : State} (h : SameSession s u) (h' : SameSession u v) : SameSession s v :=
  Eq.trans h' (h.field (withEngineOf v))

theorem SameSession.surroundings {s u : State} (h : SameSession s u) : SameSurroundings s u :=
  ⟨h.field State.cfg, h.field State.rxBuf, h.field State.rxNeed, h.field State.tick, h.field State.inputs,
    h.field State.cancelPending, h.field State.hostReads⟩

theorem SameSession.silent {s u t : State} (h : SameSession s u) (silent : Silent u t) : Silent s t :=
  silent.congr (h.field State.line) (h.field State.txAnswers) (h.field State.runStatus) (h.field State.cfg)
    (h.field State.tick) (h.field State.t0)

theorem SameSession.delivered {frame : List Byte} {s u t : State} (h : SameSession s u) (delivered : Delivered frame u t) :
    Delivered frame s t :=
  delivered.congr (h.field State.line) (h.field State.txAnswers) (h.field State.runStatus) (h.field State.cfg)
    (h.field State.tick) (h.field State.t0)

theorem sameSession_preDispatch (s : State) : SameSession s (preDispatch s) := by
  unfold SameSession withEngineOf preDispatch
  split <;> rfl

theorem sameSession_countEvent (s : State) : SameSession s (countEvent s) := rfl

theorem sameSession_countException (s : State) : SameSession s (countException s) := rfl

/-! ## What one instruction may do to the store, the mode and DiagnosticRegister -/

/-- The mode an instruction leaves behind (R28). -/
def modeAfter (i : Instr) (mode : Bool) : Bool :=
  match i with
  | .diagListen _ _ => true
  | .diagRestart _ _ => false
  | _ => mode

theorem modeAfter_of_ne_f08 {i : Instr} (other : instrFunction i ≠ .f08) (mode : Bool) : modeAfter i mode = mode := by
  cases i with
  | diagListen id data | diagRestart id data => exact absurd rfl other
  | _ => rfl

theorem modeAfter_of_write {i : Instr}
    (function : (instrFunction i = .f05 ∨ instrFunction i = .f15) ∨ instrFunction i = .f06 ∨ instrFunction i = .f16)
    (mode : Bool) : modeAfter i mode = mode := by
  apply modeAfter_of_ne_f08
  rcases function with (f | f) | f | f <;> rw [f] <;> decide

/-- What `u`, reached from `s` by counting and by the handler of `i`, may differ in. -/
structure RequestEffect (i : Instr) (s u : State) : Prop where
  session : SameSession s u
  discreteInputs : u.mem.discreteInputs = s.mem.discreteInputs
  inputRegisters : u.mem.inputRegisters = s.mem.inputRegisters
  coils : instrFunction i ≠ .f05 → instrFunction i ≠ .f15 → u.mem.coils = s.mem.coils
  holdingRegisters : instrFunction i ≠ .f06 → instrFunction i ≠ .f16 → u.mem.holdingRegisters = s.mem.holdingRegisters
  mode : u.listenOnly = modeAfter i s.listenOnly
  diagnostic : s.diagnosticRegister = 0x0000#16 → u.diagnosticRegister = 0x0000#16
  store : storeOk s = true → storeOk u = true

/-- The store's part of the invariant depends on `mem` and `cfg` alone. -/
theorem storeOk_congr {s t : State} (hmem : t.mem = s.mem) (hcfg : t.cfg = s.cfg) : storeOk t = storeOk s := by
  simp only [storeOk, hmem, hcfg]

theorem bankBelow_bitBank {s : State} (store : storeOk s = true) (b : BitBank) :
    bankBelow (bitCap s.cfg b) (bitBank s b) = true := by
  obtain ⟨-, coils, discrete, -⟩ := (storeOk_iff s).1 store
  cases b
  exacts [coils, discrete]

theorem bankBelow_regBank {s : State} (store : storeOk s = true) (b : RegBank) :
    bankBelow (regCap s.cfg b) (regBank s b) = true := by
  obtain ⟨-, -, -, input, holding⟩ := (storeOk_iff s).1 store
  cases b
  exacts [input, holding]

theorem storeOk_setBitBank {s : State} (store : storeOk s = true) (b : BitBank) {bank : Bank 1}
    (canonical : bankWf bank = true) (below : bankBelow (bitCap s.cfg b) bank = true) : storeOk (setBitBank b bank s) = true := by
  obtain ⟨wf, coils, discrete, input, holding⟩ := (storeOk_iff s).1 store
  have wf' := memoryWf_setBitBank wf b canonical
  cases b
  exacts [(storeOk_iff _).2 ⟨wf', below, discrete, input, holding⟩, (storeOk_iff _).2 ⟨wf', coils, below, input, holding⟩]

theorem storeOk_setRegBank {s : State} (store : storeOk s = true) (b : RegBank) {bank : Bank 16}
    (canonical : bankWf bank = true) (below : bankBelow (regCap s.cfg b) bank = true) :
    storeOk (setRegBank b bank s) = true := by
  obtain ⟨wf, coils, discrete, input, holding⟩ := (storeOk_iff s).1 store
  have wf' := memoryWf_setRegBank wf b canonical
  cases b
  exacts [(storeOk_iff _).2 ⟨wf', coils, discrete, below, holding⟩, (storeOk_iff _).2 ⟨wf', coils, discrete, input, below⟩]

/-- A state that keeps the store. -/
theorem RequestEffect.of_sameMem {i : Instr} {s u : State} (session : SameSession s u) (hmem : u.mem = s.mem)
    (mode : u.listenOnly = modeAfter i s.listenOnly)
    (diagnostic : s.diagnosticRegister = 0x0000#16 → u.diagnosticRegister = 0x0000#16) : RequestEffect i s u where
  session := session
  discreteInputs := congrArg Memory.discreteInputs hmem
  inputRegisters := congrArg Memory.inputRegisters hmem
  coils _ _ := congrArg Memory.coils hmem
  holdingRegisters _ _ := congrArg Memory.holdingRegisters hmem
  mode := mode
  diagnostic := diagnostic
  store h := (storeOk_congr hmem (session.field State.cfg)).trans h

theorem RequestEffect.unchanged {i : Instr} {s : State} (mode : modeAfter i s.listenOnly = s.listenOnly) :
    RequestEffect i s s :=
  .of_sameMem rfl rfl mode.symm id

theorem RequestEffect.writtenCoils {i : Instr} {s : State} {a : Nat} {vs : List (BitVec 1)}
    (function : instrFunction i = .f05 ∨ instrFunction i = .f15) (inside : a + vs.length ≤ s.cfg.capCoils) :
    RequestEffect i s (setBitBank .coils (bankWriteRange s.mem.coils a vs) s) where
  session := rfl
  discreteInputs := rfl
  inputRegisters := rfl
  coils not05 not15 := (function.elim not05 not15).elim
  holdingRegisters _ _ := rfl
  mode := (modeAfter_of_write (.inl function) _).symm
  diagnostic := id
  store h := by
    obtain ⟨canonical, -⟩ := (storeOk_iff s).1 h
    exact storeOk_setBitBank h .coils (bankWf_bankWriteRange (bankWf_bitBank canonical .coils) _ _)
      (bankBelow_bankWriteRange (bankBelow_bitBank h .coils) a vs inside)

theorem RequestEffect.writtenRegisters {i : Instr} {s : State} {a : Nat} {vs : List Word}
    (function : instrFunction i = .f06 ∨ instrFunction i = .f16) (inside : a + vs.length ≤ s.cfg.capHR) :
    RequestEffect i s (setRegBank .holdingRegisters (bankWriteRange s.mem.holdingRegisters a vs) s) where
  session := rfl
  discreteInputs := rfl
  inputRegisters := rfl
  coils _ _ := rfl
  holdingRegisters not06 not16 := (function.elim not06 not16).elim
  mode := (modeAfter_of_write (.inr function) _).symm
  diagnostic := id
  store h := by
    obtain ⟨canonical, -⟩ := (storeOk_iff s).1 h
    exact storeOk_setRegBank h .holdingRegisters (bankWf_bankWriteRange (bankWf_regBank canonical .holdingRegisters) _ _)
      (bankBelow_bankWriteRange (bankBelow_regBank h .holdingRegisters) a vs inside)

/-- Counting before the dispatch does not show in what a request may change. -/
theorem RequestEffect.of_preDispatch {i : Instr} {s u : State} (h : RequestEffect i (preDispatch s) u) :
    RequestEffect i s u where
  session := (sameSession_preDispatch s).trans h.session
  discreteInputs := h.discreteInputs.trans (congrArg Memory.discreteInputs (preDispatch_mem s))
  inputRegisters := h.inputRegisters.trans (congrArg Memory.inputRegisters (preDispatch_mem s))
  coils not05 not15 := (h.coils not05 not15).trans (congrArg Memory.coils (preDispatch_mem s))
  holdingRegisters not06 not16 :=
    (h.holdingRegisters not06 not16).trans (congrArg Memory.holdingRegisters (preDispatch_mem s))
  mode := by rw [h.mode, preDispatch_listenOnly]
  diagnostic zero := h.diagnostic (by rw [preDispatch_diagnosticRegister, zero])
  store ok := h.store (by rw [storeOk_congr (preDispatch_mem s) (preDispatch_cfg s), ok])

/-- Nor does counting the reply or the exception. -/
theorem RequestEffect.countEvent {i : Instr} {s u : State} (h : RequestEffect i s u) :
    RequestEffect i s (countEvent u) where
  __ := h
  session := h.session.trans (sameSession_countEvent u)

theorem RequestEffect.countException {i : Instr} {s u : State} (h : RequestEffect i s u) :
    RequestEffect i s (countException u) where
  __ := h
  session := h.session.trans (sameSession_countException u)

/-! ## What the handlers do -/

/-- A property of the state a handler that was entered in `s` leaves; a handler that raises has written nothing (R345). -/
def HandlerResult.Leaves (P : State → Prop) (s : State) : HandlerResult → Prop
  | .reply u _ _ => P u
  | .exception _ => P s
  | .noReply u => P u

theorem readBitsHandler_leaves (b : BitBank) (address count : Word) {s : State} {P : State → Prop} (kept : P s) :
    (readBitsHandler b address count s).Leaves P s := by
  obtain ⟨-, e⟩ | ⟨-, -, e⟩ | ⟨-, -, e⟩ := readBitsHandler_cases b address count s <;> rw [e]
  exacts [kept, kept, kept]

theorem readRegistersHandler_leaves (b : RegBank) (address count : Word) {s : State} {P : State → Prop} (kept : P s) :
    (readRegistersHandler b address count s).Leaves P s := by
  obtain ⟨-, e⟩ | ⟨-, -, e⟩ | ⟨-, -, e⟩ := readRegistersHandler_cases b address count s <;> rw [e]
  exacts [kept, kept, kept]

theorem writeCoils_leaves {i : Instr} (function : instrFunction i = .f05 ∨ instrFunction i = .f15) (address count : Word)
    (length : Nat) (data : List Byte) (s : State) :
    (writeCoils address count length data s).Leaves (RequestEffect i s) s := by
  obtain ⟨-, e⟩ | ⟨inside, e⟩ := writeCoils_cases address count length data s <;> rw [e]
  exacts [.unchanged (modeAfter_of_write (.inl function) _), .writtenCoils function (by rwa [unpackBits_length])]

theorem writeRegisters_leaves {i : Instr} (function : instrFunction i = .f06 ∨ instrFunction i = .f16)
    (address count : Word) (length : Nat) (data : List Byte) (s : State) :
    (writeRegisters address count length data s).Leaves (RequestEffect i s) s := by
  obtain ⟨-, e⟩ | ⟨inside, e⟩ := writeRegisters_cases address count length data s <;> rw [e]
  exacts [.unchanged (modeAfter_of_write (.inr function) _), .writtenRegisters function (by rwa [bytesToRegisters_length])]

/-- What the handler of any instruction leaves. -/
theorem handlerOf_leaves (i : Instr) (s : State) : (handlerOf i s).Leaves (RequestEffect i s) s := by
  cases i with
  | rdcoil _ address count | rddi _ address count => exact readBitsHandler_leaves _ address count (.unchanged rfl)
  | rdhr _ address count | rdir _ address count => exact readRegistersHandler_leaves _ address count (.unchanged rfl)
  | wrcoil _ address value =>
    simp only [handlerOf, wrcoilHandler]
    split
    exacts [.unchanged rfl, writeCoils_leaves (.inl rfl) _ _ _ _ s]
  | wrhr _ address value => exact writeRegisters_leaves (.inl rfl) _ _ _ _ s
  | wrcoils _ address count byteCount data =>
    simp only [handlerOf, wrcoilsHandler]
    split
    exacts [.unchanged rfl, writeCoils_leaves (.inr rfl) _ _ _ _ s]
  | wrhrs _ address count byteCount data =>
    simp only [handlerOf, wrhrsHandler]
    split
    exacts [.unchanged rfl, writeRegisters_leaves (.inr rfl) _ _ _ _ s]
  | diagRestart _ data =>
    simp only [handlerOf, restartHandler]
    split
    exacts [.of_sameMem rfl rfl rfl fun zero => zero, .of_sameMem rfl rfl rfl fun zero => zero]
  | diagClear _ data => exact .of_sameMem rfl rfl rfl fun _ => rfl
  | diagListen _ data => exact .of_sameMem rfl rfl rfl fun zero => zero
  | _ => exact .unchanged rfl

/-! ## How a transaction ends -/

theorem appendCrc_ne_nil (body : List Byte) : appendCrc body ≠ [] :=
  List.ne_nil_of_length_pos (by rw [appendCrc_length]; omega)

/-- From the state `u` the transaction ends in `t`: without a transmission, or after handing over one frame. -/
def Concludes (lo : Bool) (u t : State) : Prop :=
  t = endTransaction u ∨ ∃ frame : List Byte, frame ≠ [] ∧ t = finish (send lo frame u)

/-- Every instruction counts and runs its handler, and then ends its transaction. -/
theorem exec_effect {i : Instr} {s t : State} (h : exec i s = .next t) :
    ∃ u, RequestEffect i s u ∧ Concludes s.listenOnly u t := by
  rw [exec_eq] at h
  cases h
  have left := handlerOf_leaves i (preDispatch s)
  obtain ⟨dropped, ended⟩ | ⟨-, ⟨u, payload, cleared, answer, ended⟩ | ⟨k, answer, ended⟩ | ⟨u, answer, ended⟩⟩ :=
    transaction_cases (headerOf i) (handlerOf i) s
  · have other : instrFunction i ≠ .f08 := by
      intro diagnostics
      simp [handlerRuns, headerOf, diagnostics] at dropped
    exact ⟨preDispatch s, (RequestEffect.unchanged (modeAfter_of_ne_f08 other _)).of_preDispatch, .inl ended⟩
  · rw [answer] at left
    cases cleared
    · exact ⟨_, left.of_preDispatch.countEvent, .inr ⟨_, appendCrc_ne_nil _, ended⟩⟩
    · exact ⟨_, left.of_preDispatch, .inr ⟨_, appendCrc_ne_nil _, ended⟩⟩
  · rw [answer] at left
    exact ⟨_, left.of_preDispatch.countException, .inr ⟨_, appendCrc_ne_nil _, ended⟩⟩
  · rw [answer] at left
    exact ⟨u, left.of_preDispatch, .inl ended⟩

/-! ## What is seen after the end -/

/-- The end of a transaction keeps what the handler left. -/
theorem Concludes.engine {lo : Bool} {u t : State} (h : Concludes lo u t) :
    t.mem = u.mem ∧ t.cfg = u.cfg ∧ t.listenOnly = u.listenOnly ∧ t.diagnosticRegister = u.diagnosticRegister
      ∧ t.tick = u.tick ∧ t.rxNeed = u.rxNeed := by
  obtain rfl | ⟨frame, -, rfl⟩ := h <;> simp

/-- With the gate latched the line sees nothing (R289). -/
theorem Concludes.silent {u t : State} (h : Concludes true u t) : Silent u t := by
  obtain rfl | ⟨frame, -, rfl⟩ := h
  exacts [endTransaction_silent u, finish_send_silent frame u]

/-! ## The obligations about every instruction -/

/-- Settles O37: every instruction is a transaction, and a transaction is a function of the state. -/
theorem everyInstructionCompletes : Obligations.EveryInstructionCompletes := fun i s => ⟨_, exec_eq i s⟩

/-- Settles O38: the handler's effect, which the end of the transaction keeps. -/
theorem requestsWriteOnlyTheirBank : Obligations.RequestsWriteOnlyTheirBank := by
  intro i s t h
  obtain ⟨u, effect, concludes⟩ := exec_effect h
  obtain ⟨hmem, -⟩ := concludes.engine
  rw [hmem]
  exact ⟨effect.discreteInputs, effect.inputRegisters, fun ⟨not05, not15⟩ => effect.coils not05 not15,
    fun ⟨not06, not16⟩ => effect.holdingRegisters not06 not16⟩

/-- Settles O39: as O38, for the mode. -/
theorem onlyListenAndRestartChangeTheMode : Obligations.OnlyListenAndRestartChangeTheMode := by
  intro i s t h
  obtain ⟨u, effect, concludes⟩ := exec_effect h
  obtain ⟨-, -, hmode, -⟩ := concludes.engine
  rw [hmode, effect.mode]
  cases i <;> rfl

/-- Settles O40: the dispatch predicate drops the frame after the counting. -/
theorem listenOnlyDropsRequests : Obligations.ListenOnlyDropsRequests := by
  intro i s listening other
  have dropped : handlerRuns (headerOf i) s.listenOnly = false := by
    rw [handlerRuns_eq, listening]
    exact decide_eq_false other
  refine ⟨endTransaction (preDispatch s), by rw [exec_eq, transaction_dropped dropped],
    (sameSession_preDispatch s).silent (endTransaction_silent _), unitAt_congr (by simp), ?_, by simp [listening], ?_⟩
  · simp [CountedOnly, CountersAre]
  · simp [SameSurroundings]

/-- Settles O41: whatever the handler left, the gate latched at its entry keeps the line as it was. -/
theorem listenOnlyTransmitsNothing : Obligations.ListenOnlyTransmitsNothing := by
  intro i s t listening h
  obtain ⟨u, effect, concludes⟩ := exec_effect h
  rw [listening] at concludes
  exact effect.session.silent concludes.silent

/-- Settles O42: exception entry is one count and one frame through the gate. -/
theorem exceptionEntryCountsAndReplies : Obligations.ExceptionEntryCountsAndReplies := by
  intro h k lo s
  have session : SameSession s (countException s) := sameSession_countException s
  refine ⟨by simp [takeException, CountersAre], by simp [takeException], by simp [takeException],
    by simp [takeException, SameSurroundings], ?_, ?_⟩
  · rintro rfl
    exact session.delivered (finish_send_delivered _ _)
  · rintro rfl
    exact session.silent (finish_send_silent _ _)

end Sys2Proof.Machine
end

section
/-! PROOFS. A failed transmission against a successful one (spec/47_receiver.md R290): no handler sees the answers of
`put_bytes`, so two runs that differ in them alone part where the transaction ends. -/

namespace Sys2Proof.Machine

open Sys2Proof

/-! ## Nothing before the transmission depends on the answers of `put_bytes` -/

/-- The state with other answers of `put_bytes` to come. -/
def withAnswers (answers : List TxAnswer) (s : State) : State := { s with txAnswers := answers }

/-- What a handler answers, with other answers of `put_bytes` to come. -/
def HandlerResult.withAnswers (answers : List TxAnswer) : HandlerResult → HandlerResult
  | .reply s payload cleared => .reply (Machine.withAnswers answers s) payload cleared
  | .exception k => .exception k
  | .noReply s => .noReply (Machine.withAnswers answers s)

variable (answers : List TxAnswer) (s : State)

@[simp] theorem withAnswers_cfg : (withAnswers answers s).cfg = s.cfg := rfl

@[simp] theorem bitBank_withAnswers (b : BitBank) : bitBank (withAnswers answers s) b = bitBank s b := bitBank_congr rfl b

@[simp] theorem regBank_withAnswers (b : RegBank) : regBank (withAnswers answers s) b = regBank s b := regBank_congr rfl b

theorem preDispatch_withAnswers : preDispatch (withAnswers answers s) = withAnswers answers (preDispatch s) := by
  have gate : (withAnswers answers s).listenOnly = s.listenOnly := rfl
  rw [preDispatch, preDispatch, gate]
  cases s.listenOnly <;> rfl

theorem readBitsHandler_withAnswers (b : BitBank) (address count : Word) :
    readBitsHandler b address count (withAnswers answers s) = (readBitsHandler b address count s).withAnswers answers := by
  unfold readBitsHandler
  rw [bitBank_withAnswers, withAnswers_cfg]
  split
  · rfl
  · cases getBits (bitBank s b) (bitCap s.cfg b) address.toNat count.toNat <;> rfl

theorem readRegistersHandler_withAnswers (b : RegBank) (address count : Word) :
    readRegistersHandler b address count (withAnswers answers s)
      = (readRegistersHandler b address count s).withAnswers answers := by
  unfold readRegistersHandler
  rw [regBank_withAnswers, withAnswers_cfg]
  split
  · rfl
  · cases getRegisters (regBank s b) (regCap s.cfg b) address.toNat count.toNat <;> rfl

theorem writeCoils_withAnswers (address count : Word) (length : Nat) (data : List Byte) :
    writeCoils address count length data (withAnswers answers s)
      = (writeCoils address count length data s).withAnswers answers := by
  unfold writeCoils
  rw [bitBank_withAnswers, withAnswers_cfg]
  cases setBits (bitBank s .coils) (bitCap s.cfg .coils) address.toNat length data <;> rfl

theorem writeRegisters_withAnswers (address count : Word) (length : Nat) (data : List Byte) :
    writeRegisters address count length data (withAnswers answers s)
      = (writeRegisters address count length data s).withAnswers answers := by
  unfold writeRegisters
  rw [regBank_withAnswers, withAnswers_cfg]
  cases setRegisters (regBank s .holdingRegisters) (regCap s.cfg .holdingRegisters) address.toNat length data <;> rfl

theorem handlerOf_withAnswers (i : Instr) :
    handlerOf i (withAnswers answers s) = (handlerOf i s).withAnswers answers := by
  cases i with
  | rdcoil _ address count | rddi _ address count => exact readBitsHandler_withAnswers answers s _ address count
  | rdhr _ address count | rdir _ address count => exact readRegistersHandler_withAnswers answers s _ address count
  | wrhr _ address value => exact writeRegisters_withAnswers answers s _ _ _ _
  | wrcoil _ address value =>
    simp only [handlerOf, wrcoilHandler]
    split
    exacts [rfl, writeCoils_withAnswers answers s _ _ _ _]
  | wrcoils _ address count byteCount data =>
    simp only [handlerOf, wrcoilsHandler]
    split
    exacts [rfl, writeCoils_withAnswers answers s _ _ _ _]
  | wrhrs _ address count byteCount data =>
    simp only [handlerOf, wrhrsHandler]
    split
    exacts [rfl, writeRegisters_withAnswers answers s _ _ _ _]
  | diagRestart _ data =>
    simp only [handlerOf, restartHandler]
    split <;> rfl
  | _ => rfl

/-! ## Where the runs part -/

/-- One state before the end serves every list of answers: the transaction ends from it silently, or hands over one
frame. -/
theorem exec_withAnswers (i : Instr) : ∃ u, u.line = s.line ∧
    ((∀ answers, exec i (withAnswers answers s) = .next (endTransaction (withAnswers answers u)))
      ∨ ∃ frame : List Byte, frame ≠ [] ∧ ∀ answers,
          exec i (withAnswers answers s) = .next (finish (send s.listenOnly frame (withAnswers answers u)))) := by
  have left := handlerOf_leaves i (preDispatch s)
  have answer (answers) : handlerOf i (preDispatch (withAnswers answers s))
      = (handlerOf i (preDispatch s)).withAnswers answers := by
    rw [preDispatch_withAnswers, handlerOf_withAnswers]
  cases runs : handlerRuns (headerOf i) s.listenOnly with
  | false =>
    refine ⟨preDispatch s, preDispatch_line s, .inl fun answers => ?_⟩
    rw [exec_eq, transaction_dropped (s := withAnswers answers s) runs, preDispatch_withAnswers]
  | true =>
    cases result : handlerOf i (preDispatch s) with
    | reply u payload cleared =>
      simp only [result] at left answer
      refine ⟨if cleared = true then u else countEvent u, ?_,
        .inr ⟨buildResponse (headerOf i) payload, appendCrc_ne_nil _, fun answers => ?_⟩⟩
      · have line : u.line = s.line := left.of_preDispatch.session.field State.line
        cases cleared <;> exact line
      · rw [exec_eq, transaction_reply (s := withAnswers answers s) runs (answer answers)]
        cases cleared <;> rfl
    | exception k =>
      simp only [result] at answer
      refine ⟨countException (preDispatch s), preDispatch_line s,
        .inr ⟨buildException (headerOf i) k, appendCrc_ne_nil _, fun answers => ?_⟩⟩
      rw [exec_eq, transaction_exception (s := withAnswers answers s) runs (answer answers), preDispatch_withAnswers]
      rfl
    | noReply u =>
      simp only [result] at left answer
      refine ⟨u, left.of_preDispatch.session.field State.line, .inl fun answers => ?_⟩
      rw [exec_eq, transaction_noReply (s := withAnswers answers s) runs (answer answers)]

/-! ## The obligation -/

/-- Settles O43: where nothing is sent the answer stays unused in both runs; a frame is sent to the state both share. -/
theorem transportFailureUndoesNothing : Obligations.TransportFailureUndoesNothing := by
  intro i s t1 t2 written rest failed answered
  obtain ⟨u, line, silent | ⟨frame, body, sent⟩⟩ := exec_withAnswers s i
  · cases (silent _).symm.trans failed
    cases (silent _).symm.trans answered
    exact ⟨rfl, rfl, ⟨rfl, rfl, rfl, rfl, rfl, rfl⟩, .inl ⟨line, rfl⟩⟩
  · cases (sent _).symm.trans failed
    cases (sent _).symm.trans answered
    rw [← line]
    cases s.listenOnly with
    | true => exact ⟨rfl, rfl, ⟨rfl, rfl, rfl, rfl, rfl, rfl⟩, .inl ⟨rfl, rfl⟩⟩
    | false => exact ⟨rfl, rfl, ⟨rfl, rfl, rfl, rfl, rfl, rfl⟩, .inr ⟨frame, body, rfl, rfl, rfl, rfl, rfl⟩⟩

end Sys2Proof.Machine
end

section
/-! PROOFS. What each request answers (spec/43 to spec/46): the commit of a handler's outcome seen from outside, said once,
and then the handler of each instruction. -/

namespace Sys2Proof.Machine

open Sys2Proof

/-! ## The commit of an outcome -/

/-- `t` is reached from `s` by handing over `frame` with the engine's registers as in `u`. -/
structure Committed (frame : List Byte) (s u t : State) : Prop where
  answered : Answered frame s t
  units : ∀ (b : BankId) (a : Nat), unitAt t b a = unitAt u b a
  counters : CountersAre t u.messageCount u.eventCount u.crcErrorCount u.diagnosticRegister u.exceptionErrorCount
    u.noResponseCount
  mode : t.listenOnly = u.listenOnly
  surroundings : SameSurroundings s t

theorem committed_finish_send {s u : State} (session : SameSession s u) (frame : List Byte) :
    Committed frame s u (finish (send s.listenOnly frame u)) where
  answered := finish_send_answered (session.field State.line) (session.field State.txAnswers)
    (session.field State.runStatus) (session.field State.cfg) (session.field State.tick) (session.field State.t0)
  units := unitAt_congr (finish_send_mem _ frame u)
  counters := by simp [CountersAre]
  mode := finish_send_listenOnly _ frame u
  surroundings := by
    obtain ⟨cfg, rxBuf, rxNeed, tick, inputs, cancel, reads⟩ := session.surroundings
    simp [SameSurroundings, *]

/-- The handler of `i` runs in the mode of `s` (R287). -/
abbrev Runs (i : Instr) (s : State) : Prop := handlerRuns (headerOf i) s.listenOnly = true

theorem runs_of_normal (i : Instr) {s : State} (normal : s.listenOnly = false) : Runs i s := by
  rw [Runs, handlerRuns_eq, normal]; rfl

theorem runs_of_f08 {i : Instr} (diagnostics : instrFunction i = .f08) (s : State) : Runs i s := by
  simp [Runs, handlerRuns_eq, headerOf, diagnostics]

section
variable {i : Instr} {s : State} (runs : Runs i s)
include runs

/-- A reply is counted as an event unless its handler cleared that counter, and is handed over (R288, R295). -/
theorem exec_reply {u : State} {payload : List Byte} {cleared : Bool}
    (answer : handlerOf i (preDispatch s) = .reply u payload cleared) : ∃ t, exec i s = .next t ∧
      Committed (replyFrame (instrId i) (functionByte (instrFunction i)) payload) s
        (if cleared = true then u else countEvent u) t := by
  have left := handlerOf_leaves i (preDispatch s)
  rw [answer] at left
  have session : SameSession s u := left.of_preDispatch.session
  refine ⟨_, exec_eq i s, ?_⟩
  rw [transaction_reply runs answer]
  apply committed_finish_send
  cases cleared
  exacts [session.trans (sameSession_countEvent u), session]

/-- A reply of a handler that wrote no unit. -/
theorem exec_reply_sameUnits {u : State} {payload : List Byte} {cleared : Bool}
    (answer : handlerOf i (preDispatch s) = .reply u payload cleared) (kept : u.mem = s.mem) : ∃ t, exec i s = .next t ∧
      Committed (replyFrame (instrId i) (functionByte (instrFunction i)) payload) s
        (if cleared = true then u else countEvent u) t ∧ SameUnits s t := by
  obtain ⟨t, executed, committed⟩ := exec_reply runs answer
  refine ⟨t, executed, committed, fun b a => (committed.units b a).trans (unitAt_congr ?_ b a)⟩
  cases cleared
  exacts [kept, kept]

/-- A reply of a handler that changed nothing. -/
theorem exec_answeredOnly {payload : List Byte}
    (answer : handlerOf i (preDispatch s) = .reply (preDispatch s) payload false) : ∃ t, exec i s = .next t ∧
      AnsweredOnly (instrId i) (functionByte (instrFunction i)) payload s t := by
  obtain ⟨t, executed, committed, units⟩ := exec_reply_sameUnits runs answer (preDispatch_mem s)
  refine ⟨t, executed, committed.answered, units, ?_, committed.mode.trans (preDispatch_listenOnly s),
    committed.surroundings⟩
  simpa [CountedSuccess] using committed.counters

/-- An exception is counted and its frame handed over, with nothing else changed (R344, R345). -/
theorem exec_tookException {k : WireException} (answer : handlerOf i (preDispatch s) = .exception k) :
    ∃ t, exec i s = .next t ∧ TookException (instrId i) (functionByte (instrFunction i)) (excCode k) s t := by
  have session : SameSession s (countException (preDispatch s)) :=
    (sameSession_preDispatch s).trans (sameSession_countException _)
  have committed := committed_finish_send session (buildException (headerOf i) k)
  refine ⟨_, exec_eq i s, ?_⟩
  rw [transaction_exception runs answer]
  refine ⟨committed.answered, fun b a => (committed.units b a).trans (unitAt_congr (preDispatch_mem s) b a), ?_,
    committed.mode.trans (preDispatch_listenOnly s), committed.surroundings⟩
  simpa [CountedException, takeException] using committed.counters

end

/-- In normal mode an answer reaches `put_bytes` (R289). -/
theorem delivered_of_answered {frame : List Byte} {s t : State} (normal : s.listenOnly = false)
    (answered : Answered frame s t) : Delivered frame s t := by
  rwa [Answered, if_neg (by rw [normal]; decide)] at answered

/-! ## The handlers in range, and out of it -/

theorem readBitsHandler_inside {b : BitBank} {address count : Word} {s : State} (few : count.toNat ≤ 2040)
    (inside : address.toNat + count.toNat ≤ bitCap s.cfg b) :
    readBitsHandler b address count s = .reply s (countedData ((count.toNat + 7) / 8)
      (packBits (bankReadRange (bitBank s b) address.toNat count.toNat))) false := by
  obtain ⟨many, -⟩ | ⟨-, outside, -⟩ | ⟨-, -, answer⟩ := readBitsHandler_cases b address count s
  exacts [absurd many (by omega), absurd outside (by omega), answer]

theorem readBitsHandler_many {b : BitBank} {address count : Word} (s : State) (many : 2040 < count.toNat) :
    readBitsHandler b address count s = .exception .invalidParameter := by
  obtain ⟨-, answer⟩ | ⟨few, -⟩ | ⟨few, -⟩ := readBitsHandler_cases b address count s
  exacts [answer, absurd few (by omega), absurd few (by omega)]

theorem readBitsHandler_outside {b : BitBank} {address count : Word} {s : State} (few : count.toNat ≤ 2040)
    (outside : bitCap s.cfg b < address.toNat + count.toNat) :
    readBitsHandler b address count s = .exception .addressOutOfRange := by
  obtain ⟨many, -⟩ | ⟨-, -, answer⟩ | ⟨-, inside, -⟩ := readBitsHandler_cases b address count s
  exacts [absurd many (by omega), answer, absurd inside (by omega)]

theorem readRegistersHandler_inside {b : RegBank} {address count : Word} {s : State} (few : count.toNat ≤ 127)
    (inside : address.toNat + count.toNat ≤ regCap s.cfg b) :
    readRegistersHandler b address count s = .reply s (countedData (count.toNat * 2)
      (registersToBytes (bankReadRange (regBank s b) address.toNat count.toNat))) false := by
  obtain ⟨many, -⟩ | ⟨-, outside, -⟩ | ⟨-, -, answer⟩ := readRegistersHandler_cases b address count s
  exacts [absurd many (by omega), absurd outside (by omega), answer]

theorem readRegistersHandler_many {b : RegBank} {address count : Word} (s : State) (many : 127 < count.toNat) :
    readRegistersHandler b address count s = .exception .invalidParameter := by
  obtain ⟨-, answer⟩ | ⟨few, -⟩ | ⟨few, -⟩ := readRegistersHandler_cases b address count s
  exacts [answer, absurd few (by omega), absurd few (by omega)]

theorem readRegistersHandler_outside {b : RegBank} {address count : Word} {s : State} (few : count.toNat ≤ 127)
    (outside : regCap s.cfg b < address.toNat + count.toNat) :
    readRegistersHandler b address count s = .exception .addressOutOfRange := by
  obtain ⟨many, -⟩ | ⟨-, -, answer⟩ | ⟨-, inside, -⟩ := readRegistersHandler_cases b address count s
  exacts [absurd many (by omega), answer, absurd inside (by omega)]

theorem writeCoils_outside {address count : Word} {length : Nat} {data : List Byte} {s : State}
    (outside : s.cfg.capCoils < address.toNat + length) :
    writeCoils address count length data s = .exception .addressOutOfRange := by
  obtain ⟨-, answer⟩ | ⟨inside, -⟩ := writeCoils_cases address count length data s
  exacts [answer, absurd inside (by omega)]

theorem writeRegisters_outside {address count : Word} {length : Nat} {data : List Byte} {s : State}
    (outside : s.cfg.capHR < address.toNat + length) :
    writeRegisters address count length data s = .exception .addressOutOfRange := by
  obtain ⟨-, answer⟩ | ⟨inside, -⟩ := writeRegisters_cases address count length data s
  exacts [answer, absurd inside (by omega)]

theorem wrcoilHandler_of_legal {value : Word} (legal : value = 0x0000#16 ∨ value = 0xFF00#16) (address : Word) (s : State) :
    wrcoilHandler address value s
      = writeCoils address value 1 [if value = 0xFF00#16 then 0x01#8 else 0x00#8] s :=
  if_neg (by tauto)

theorem wrcoilsHandler_of_matching {count : Word} {byteCount : Byte} (matching : byteCount.toNat = (count.toNat + 7) / 8)
    (address : Word) (data : List Byte) (s : State) :
    wrcoilsHandler address count byteCount data s = writeCoils address count count.toNat data s :=
  if_neg (not_not.2 matching)

theorem wrhrsHandler_of_matching {count : Word} {byteCount : Byte} (matching : byteCount.toNat = count.toNat * 2)
    (address : Word) (data : List Byte) (s : State) :
    wrhrsHandler address count byteCount data s = writeRegisters address count count.toNat data s :=
  if_neg (not_not.2 matching)

/-! ## The read functions -/

/-- An answered read of bits, of either bank. -/
theorem exec_readBits {i : Instr} {s : State} (runs : Runs i s) {b : BitBank} {address count : Word}
    (handler : handlerOf i = readBitsHandler b address count) (few : count.toNat ≤ 2040)
    (inside : address.toNat + count.toNat ≤ bitCap s.cfg b) : ∃ t data, exec i s = .next t
      ∧ PackedBits data count.toNat (fun j => (unitAt s (.bits b) (address.toNat + j)).getLsbD 0)
      ∧ AnsweredOnly (instrId i) (functionByte (instrFunction i)) (BitVec.ofNat 8 ((count.toNat + 7) / 8) :: data) s t := by
  have answer := readBitsHandler_inside (s := preDispatch s) few (by rwa [preDispatch_cfg])
  obtain ⟨t, executed, answered⟩ := exec_answeredOnly runs ((congrFun handler _).trans answer)
  have bits := packedBits_packBits_bankReadRange (bitBank (preDispatch s) b) address.toNat count.toNat
  rw [bitBank_congr (preDispatch_mem s)] at bits answered
  exact ⟨t, _, executed, by simpa [unitAt] using bits, answered⟩

/-- An answered read of registers, of either bank. -/
theorem exec_readRegisters {i : Instr} {s : State} (runs : Runs i s) {b : RegBank} {address count : Word}
    (handler : handlerOf i = readRegistersHandler b address count) (few : count.toNat ≤ 127)
    (inside : address.toNat + count.toNat ≤ regCap s.cfg b) : ∃ t data, exec i s = .next t
      ∧ PackedRegisters data count.toNat (fun j => unitAt s (.regs b) (address.toNat + j))
      ∧ AnsweredOnly (instrId i) (functionByte (instrFunction i)) (BitVec.ofNat 8 (count.toNat * 2) :: data) s t := by
  have answer := readRegistersHandler_inside (s := preDispatch s) few (by rwa [preDispatch_cfg])
  obtain ⟨t, executed, answered⟩ := exec_answeredOnly runs ((congrFun handler _).trans answer)
  have registers := packedRegisters_registersToBytes_bankReadRange (regBank (preDispatch s) b) address.toNat count.toNat
  rw [regBank_congr (preDispatch_mem s)] at registers answered
  exact ⟨t, _, executed, registers, answered⟩

/-- Settles O44: one lemma for both banks, in normal mode. -/
theorem readBitRequestsReply : Obligations.ReadBitRequestsReply := fun id address count _ normal few =>
  ⟨exec_readBits (i := .rdcoil id address count) (runs_of_normal _ normal) rfl few,
    exec_readBits (i := .rddi id address count) (runs_of_normal _ normal) rfl few⟩

/-- Settles O45: as O44, for registers. -/
theorem readRegisterRequestsReply : Obligations.ReadRegisterRequestsReply := fun id address count _ normal few =>
  ⟨exec_readRegisters (i := .rdhr id address count) (runs_of_normal _ normal) rfl few,
    exec_readRegisters (i := .rdir id address count) (runs_of_normal _ normal) rfl few⟩

/-- Settles O46: the count is checked first; the address check is the bank operation's. -/
theorem readRequestsRaiseTheirExceptions : Obligations.ReadRequestsRaiseTheirExceptions := by
  intro id address count s normal
  have runs (i : Instr) : Runs i s := runs_of_normal i normal
  have cap : (preDispatch s).cfg = s.cfg := preDispatch_cfg s
  refine ⟨fun many => exec_tookException (runs (.rdcoil id address count)) (readBitsHandler_many _ many),
    fun few outside => exec_tookException (runs (.rdcoil id address count))
      (readBitsHandler_outside few (by rwa [cap])),
    fun many => exec_tookException (runs (.rddi id address count)) (readBitsHandler_many _ many),
    fun few outside => exec_tookException (runs (.rddi id address count))
      (readBitsHandler_outside few (by rwa [cap])),
    fun many => exec_tookException (runs (.rdhr id address count)) (readRegistersHandler_many _ many),
    fun few outside => exec_tookException (runs (.rdhr id address count))
      (readRegistersHandler_outside few (by rwa [cap])),
    fun many => exec_tookException (runs (.rdir id address count)) (readRegistersHandler_many _ many),
    fun few outside => exec_tookException (runs (.rdir id address count))
      (readRegistersHandler_outside few (by rwa [cap]))⟩

/-! ## The write functions -/

/-- A handler that wrote units of one bank and replied. -/
theorem exec_wrote {i : Instr} {s u : State} (normal : s.listenOnly = false) {payload : List Byte}
    (answer : handlerOf i (preDispatch s) = .reply u payload false) {b : BankId} {a n : Nat}
    (others : SameUnitsBut b a n (preDispatch s) u)
    (kept : CountersAre u (preDispatch s).messageCount (preDispatch s).eventCount (preDispatch s).crcErrorCount
      (preDispatch s).diagnosticRegister (preDispatch s).exceptionErrorCount (preDispatch s).noResponseCount)
    (mode : u.listenOnly = (preDispatch s).listenOnly) : ∃ t, exec i s = .next t
      ∧ Delivered (replyFrame (instrId i) (functionByte (instrFunction i)) payload) s t
      ∧ (∀ b' a', unitAt t b' a' = unitAt u b' a') ∧ SameUnitsBut b a n s t
      ∧ CountedSuccess s t ∧ t.listenOnly = s.listenOnly ∧ SameSurroundings s t := by
  obtain ⟨t, executed, committed⟩ := exec_reply (runs_of_normal i normal) answer
  rw [if_neg (by decide)] at committed
  obtain ⟨message, event, crcError, diagnostic, exceptionError, noResponse⟩ := kept
  have units (b' : BankId) (a' : Nat) : unitAt t b' a' = unitAt u b' a' :=
    (committed.units b' a').trans (unitAt_congr (countEvent_mem u) b' a')
  refine ⟨t, executed, delivered_of_answered normal committed.answered, units, fun b' a' outside => ?_, ?_, ?_,
    committed.surroundings⟩
  · rw [units, others b' a' outside, unitAt_congr (preDispatch_mem s)]
  · simpa [CountedSuccess, message, event, crcError, diagnostic, exceptionError, noResponse] using committed.counters
  · rw [committed.mode, countEvent_listenOnly, mode, preDispatch_listenOnly]

/-- A write of coils that its checks let through: the addressed coils, no other unit, and the echo. -/
theorem exec_writeCoils {i : Instr} {s : State} (normal : s.listenOnly = false) (canonical : bankWf s.mem.coils = true)
    {address field : Word} {length : Nat} {data : List Byte}
    (handler : handlerOf i (preDispatch s) = writeCoils address field length data (preDispatch s))
    (inside : address.toNat + length ≤ s.cfg.capCoils) : ∃ t, exec i s = .next t
      ∧ Delivered (replyFrame (instrId i) (functionByte (instrFunction i)) (twoFields address field)) s t
      ∧ (∀ j, j < length → unitAt t (.bits .coils) (address.toNat + j)
          = if (data.getD (j / 8) 0x00#8).getLsbD (j % 8) = true then 0x0001#16 else 0x0000#16)
      ∧ SameUnitsBut (.bits .coils) address.toNat length s t
      ∧ CountedSuccess s t ∧ t.listenOnly = s.listenOnly ∧ SameSurroundings s t := by
  obtain ⟨outside, -⟩ | ⟨-, answer⟩ := writeCoils_cases address field length data (preDispatch s)
  · rw [preDispatch_cfg] at outside; omega
  have others := sameUnitsBut_setBitBank (s := preDispatch s) (b := .coils) (a := address.toNat) (n := length) fun a' out =>
    bankRead_bankWriteRange_out (preDispatch s).mem.coils address.toNat (unpackBits data length) (by simpa using out)
  obtain ⟨t, executed, delivered, units, rest⟩ :=
    exec_wrote normal (handler.trans answer) others ⟨rfl, rfl, rfl, rfl, rfl, rfl⟩ rfl
  refine ⟨t, executed, delivered, fun j addressed => ?_, rest⟩
  rw [units, unitAt, bitBank_setBitBank, preDispatch_mem,
    bankRead_write_unpackBits canonical address.toNat length data addressed, packedBit]
  cases (data.getD (j / 8) 0x00#8).getLsbD (j % 8) <;> rfl

/-- As `exec_writeCoils`, for holding registers. -/
theorem exec_writeRegisters {i : Instr} {s : State} (normal : s.listenOnly = false)
    (canonical : bankWf s.mem.holdingRegisters = true) {address field : Word} {length : Nat} {data : List Byte}
    (handler : handlerOf i (preDispatch s) = writeRegisters address field length data (preDispatch s))
    (inside : address.toNat + length ≤ s.cfg.capHR) : ∃ t, exec i s = .next t
      ∧ Delivered (replyFrame (instrId i) (functionByte (instrFunction i)) (twoFields address field)) s t
      ∧ (∀ j, j < length → unitAt t (.regs .holdingRegisters) (address.toNat + j)
          = be16 (data.getD (2 * j) 0x00#8) (data.getD (2 * j + 1) 0x00#8))
      ∧ SameUnitsBut (.regs .holdingRegisters) address.toNat length s t
      ∧ CountedSuccess s t ∧ t.listenOnly = s.listenOnly ∧ SameSurroundings s t := by
  obtain ⟨outside, -⟩ | ⟨-, answer⟩ := writeRegisters_cases address field length data (preDispatch s)
  · rw [preDispatch_cfg] at outside; omega
  have others := sameUnitsBut_setRegBank (s := preDispatch s) (b := .holdingRegisters) (a := address.toNat) (n := length)
    fun a' out => bankRead_bankWriteRange_out (preDispatch s).mem.holdingRegisters address.toNat
      (bytesToRegisters data length) (by simpa using out)
  obtain ⟨t, executed, delivered, units, rest⟩ :=
    exec_wrote normal (handler.trans answer) others ⟨rfl, rfl, rfl, rfl, rfl, rfl⟩ rfl
  refine ⟨t, executed, delivered, fun j addressed => ?_, rest⟩
  rw [units, unitAt, regBank_setRegBank, preDispatch_mem,
    bankRead_write_bytesToRegisters canonical address.toNat length data addressed, packedRegister]

/-- Settles O47: a write of one coil, whose data byte carries the value in bit 0. -/
theorem forceSingleCoilWritesAndEchoes : Obligations.ForceSingleCoilWritesAndEchoes := by
  intro id address value s normal canonical legal inside
  obtain ⟨t, executed, delivered, written, others⟩ := exec_writeCoils (i := .wrcoil id address value) normal canonical
    (wrcoilHandler_of_legal legal address _) inside
  refine ⟨t, executed, delivered, ?_, others⟩
  have coil := written 0 (by decide)
  rcases legal with rfl | rfl <;> exact coil

/-- Settles O48: a write of one register, whose data are the value's two bytes. -/
theorem presetSingleRegisterWritesAndEchoes : Obligations.PresetSingleRegisterWritesAndEchoes := by
  intro id address value s normal canonical inside
  obtain ⟨t, executed, delivered, written, others⟩ := exec_writeRegisters (i := .wrhr id address value) normal canonical
    rfl inside
  exact ⟨t, executed, delivered, (written 0 (by decide)).trans (be16_hi8_lo8 value), others⟩

/-- Settles O49: the byte-count check lets the write through. -/
theorem forceMultipleCoilsWritesAndEchoes : Obligations.ForceMultipleCoilsWritesAndEchoes :=
  fun id address count byteCount data _ normal canonical _ matching inside =>
    exec_writeCoils (i := .wrcoils id address count byteCount data) normal canonical
      (wrcoilsHandler_of_matching matching address data _) inside

/-- Settles O50: as O49, for registers. -/
theorem presetMultipleRegistersWritesAndEchoes : Obligations.PresetMultipleRegistersWritesAndEchoes :=
  fun id address count byteCount data _ normal canonical _ matching inside =>
    exec_writeRegisters (i := .wrhrs id address count byteCount data) normal canonical
      (wrhrsHandler_of_matching matching address data _) inside

/-- Settles O51: the value is checked first; the address check is the bank operation's. -/
theorem writeRequestsRaiseTheirExceptions : Obligations.WriteRequestsRaiseTheirExceptions := by
  intro id address field byteCount data s normal
  have runs (i : Instr) : Runs i s := runs_of_normal i normal
  have cap : (preDispatch s).cfg = s.cfg := preDispatch_cfg s
  refine ⟨fun not0 not1 => exec_tookException (runs (.wrcoil id address field)) (if_pos ⟨not0, not1⟩),
    fun legal outside => exec_tookException (runs (.wrcoil id address field))
      ((wrcoilHandler_of_legal legal address _).trans (writeCoils_outside (by rwa [cap]))),
    fun outside => exec_tookException (runs (.wrhr id address field)) (writeRegisters_outside (by rwa [cap])),
    fun mismatch => exec_tookException (runs (.wrcoils id address field byteCount data)) (if_pos mismatch),
    fun matching outside => exec_tookException (runs (.wrcoils id address field byteCount data))
      ((wrcoilsHandler_of_matching matching address data _).trans (writeCoils_outside (by rwa [cap]))),
    fun mismatch => exec_tookException (runs (.wrhrs id address field byteCount data)) (if_pos mismatch),
    fun matching outside => exec_tookException (runs (.wrhrs id address field byteCount data))
      ((wrhrsHandler_of_matching matching address data _).trans (writeRegisters_outside (by rwa [cap])))⟩

/-! ## Diagnostics -/

/-- Settles O52: the handler replies with the request's fields and changes nothing. -/
theorem diagEchoEchoes : Obligations.DiagEchoEchoes := fun id data s =>
  exec_answeredOnly (i := .diagEcho id data) (runs_of_f08 rfl s) rfl

/-- Settles O53: the restart handler with and without the clear of EventCount. -/
theorem diagRestartClearsMessageCountAndMode : Obligations.DiagRestartClearsMessageCountAndMode := by
  intro id data s
  have runs : Runs (.diagRestart id data) s := runs_of_f08 rfl s
  by_cases all : data = 0xFF00#16
  · obtain ⟨t, executed, committed, units⟩ := exec_reply_sameUnits runs (if_pos all) (preDispatch_mem s)
    exact ⟨t, executed, committed.answered, units, by simpa [all] using committed.counters, committed.mode,
      committed.surroundings⟩
  · obtain ⟨t, executed, committed, units⟩ := exec_reply_sameUnits runs (if_neg all) (preDispatch_mem s)
    exact ⟨t, executed, committed.answered, units, by simpa [all] using committed.counters, committed.mode,
      committed.surroundings⟩

/-- Settles O54: without a reply the transaction ends silently, with the mode set. -/
theorem diagListenEntersListenOnlySilently : Obligations.DiagListenEntersListenOnlySilently := by
  intro id data s
  have runs : Runs (.diagListen id data) s := runs_of_f08 rfl s
  have session : SameSession s (setListenOnly true (preDispatch s)) := (sameSession_preDispatch s).trans rfl
  refine ⟨endTransaction (setListenOnly true (preDispatch s)), ?_, session.silent (endTransaction_silent _),
    unitAt_congr (by simp), ?_, rfl, ?_⟩
  · rw [exec_eq, transaction_noReply (handler := handlerOf (.diagListen id data)) runs rfl]
  · simp [CountedOnly, CountersAre]
  · simp [SameSurroundings]

/-- Settles O55: the handler clears what the counting before it moved, and the reply is not counted. -/
theorem diagClearZeroesAllCounters : Obligations.DiagClearZeroesAllCounters := by
  intro id data s
  obtain ⟨t, executed, committed, units⟩ :=
    exec_reply_sameUnits (i := .diagClear id data) (runs_of_f08 rfl s) rfl (preDispatch_mem s)
  exact ⟨t, executed, committed.answered, units, committed.counters, committed.mode.trans (preDispatch_listenOnly s),
    committed.surroundings⟩

/-- A "Return X" request, the value reported being what the register holds after the counting (R220, R234). -/
theorem exec_returnValue {i : Instr} {s : State} (diagnostics : instrFunction i = .f08) {sub v v' : Word}
    (handler : handlerOf i (preDispatch s) = returnValue sub v (preDispatch s)) (reported : v = v') :
    ∃ t, exec i s = .next t ∧ AnsweredOnly (instrId i) (functionByte (instrFunction i)) (twoFields sub v') s t := by
  subst reported
  exact exec_answeredOnly (runs_of_f08 diagnostics s) handler

/-- Settles O56: eight handlers that reply with a register and change nothing; what each reports is read after the
counting (R220). -/
theorem diagReturnsReportTheirRegister : Obligations.DiagReturnsReportTheirRegister := by
  intro id data s
  exact ⟨exec_returnValue (i := .diagRdreg id data) rfl rfl (preDispatch_diagnosticRegister s),
    exec_returnValue (i := .diagMsg11 id data) rfl rfl (preDispatch_messageCount s),
    exec_returnValue (i := .diagCrc12 id data) rfl rfl (preDispatch_crcErrorCount s),
    exec_returnValue (i := .diagExc13 id data) rfl rfl (preDispatch_exceptionErrorCount s),
    exec_returnValue (i := .diagMsg14 id data) rfl rfl (preDispatch_messageCount s),
    exec_returnValue (i := .diagNoresp15 id data) rfl rfl (preDispatch_noResponseCount s),
    exec_returnValue (i := .diagExc17 id data) rfl rfl (preDispatch_exceptionErrorCount s),
    exec_returnValue (i := .diagZero18 id data) rfl rfl rfl⟩

/-- Settles O57: the handler raises whatever the operands. -/
theorem diagOtherTakesUnsupportedFunction : Obligations.DiagOtherTakesUnsupportedFunction := fun id sub data s =>
  exec_tookException (i := .diagOther id sub data) (runs_of_f08 rfl s) rfl

/-! ## Information functions -/

/-- Settles O58: the values are read after the counting of the frame and before that of the reply (R263). -/
theorem eventCounterAndLogReport : Obligations.EventCounterAndLogReport := by
  intro id s normal
  have event := exec_answeredOnly (i := .evcnt id) (runs_of_normal _ normal) rfl
  have log := exec_answeredOnly (i := .evlog id) (runs_of_normal _ normal) rfl
  rw [preDispatch_eventCount] at event log
  rw [preDispatch_messageCount] at log
  exact ⟨event, log⟩

/-- Settles O59: the reply carries the configured identity, which the counting leaves alone. -/
theorem reportSlaveIdReports : Obligations.ReportSlaveIdReports := by
  intro id s normal
  have report := exec_answeredOnly (i := .slvid id) (runs_of_normal _ normal) rfl
  rw [preDispatch_cfg] at report
  exact report

end Sys2Proof.Machine
end

section
/-! PROOFS. One step of the receiver, state by state and event by event (spec/47_receiver.md R281 to R296, spec/10_state.md
R43). -/

namespace Sys2Proof.Machine

open Sys2Proof

/-! ## What a byte does in each state -/

theorem byteStep_awaitId {s : State} (h : s.rxState = .awaitId) (b : Byte) : byteStep b s = .next (awaitIdByte b s) := by
  rw [byteStep, h]

theorem byteStep_awaitFunction {s : State} (h : s.rxState = .awaitFunction) (b : Byte) :
    byteStep b s = .next (awaitFunctionByte b s) := by
  rw [byteStep, h]

theorem byteStep_readFixedFields {s : State} (h : s.rxState = .readFixedFields) (b : Byte) :
    byteStep b s = readingByte b fixedFieldsRead s := by
  rw [byteStep, h]

theorem byteStep_readVariableFields {s : State} (h : s.rxState = .readVariableFields) (b : Byte) :
    byteStep b s = readingByte b completeFrame s := by
  rw [byteStep, h]

theorem byteStep_silenceWait {s : State} (h : s.rxState = .silenceWait) (b : Byte) :
    byteStep b s = .next (startWait s) := by
  rw [byteStep, h]

/-- A supported function code starts the fixed fields (R282). -/
theorem awaitFunctionByte_functionByte (f : FunctionCode) (s : State) :
    awaitFunctionByte (functionByte f) s = startWait { s with
      rxBuf := s.rxBuf.setIfInBounds 1 (functionByte f), rxLen := 2, rxNeed := fixedLen f,
      rxState := .readFixedFields } := by
  rw [awaitFunctionByte, functionOfByte_functionByte]

theorem awaitFunctionByte_unsupported {b : Byte} (unsupported : b ∉ supportedBytes) (s : State) :
    awaitFunctionByte b s = dropFrame s := by
  rw [awaitFunctionByte, functionOfByte_eq_none unsupported]

theorem readingByte_early {s : State} (room : s.rxLen < bufSize) (early : 1 < s.rxNeed) (b : Byte)
    (done : State → Host.Outcome State Fault Refusal) :
    readingByte b done s = .next (startWait { rxAppend b s with rxNeed := s.rxNeed - 1 }) := by
  obtain ⟨none, -⟩ | ⟨-, full, -⟩ | ⟨-, -, stored⟩ | ⟨last, -⟩ := readingByte_cases b done s
  exacts [absurd none (by omega), absurd full (by omega), stored, absurd last (by omega)]

theorem readingByte_last {s : State} (room : s.rxLen < bufSize) (last : s.rxNeed = 1) (b : Byte)
    (done : State → Host.Outcome State Fault Refusal) :
    readingByte b done s = done { rxAppend b s with rxNeed := 0 } := by
  obtain ⟨none, -⟩ | ⟨-, full, -⟩ | ⟨early, -⟩ | ⟨-, -, complete⟩ := readingByte_cases b done s
  exacts [absurd none (by omega), absurd full (by omega), absurd early (by omega), complete]

/-- Functions 15 and 16 are those with a variable part (R96). -/
theorem readsVariablePart_iff (s : State) : readsVariablePart s = true ↔ rxAt s 1 = 0x0F#8 ∨ rxAt s 1 = 0x10#8 := by
  by_cases supported : rxAt s 1 ∈ supportedBytes
  · obtain ⟨f, mapped⟩ := (mem_supportedBytes_iff _).1 supported
    rw [readsVariablePart, ← mapped, functionOfByte_functionByte]
    cases f <;> decide
  · rw [readsVariablePart, functionOfByte_eq_none supported]
    have not15 : rxAt s 1 ≠ 0x0F#8 := fun is15 => supported (by rw [is15]; decide)
    have not16 : rxAt s 1 ≠ 0x10#8 := fun is16 => supported (by rw [is16]; decide)
    simp [not15, not16]

/-- The last fixed byte of a frame with a variable part (R283). -/
theorem fixedFieldsRead_variable {s : State} (h : readsVariablePart s = true) :
    fixedFieldsRead s
      = .next (startWait { s with rxNeed := (rxAt s 6).toNat + 2, rxState := .readVariableFields }) := if_pos h

theorem fixedFieldsRead_complete {s : State} (h : readsVariablePart s = false) : fixedFieldsRead s = completeFrame s := by
  rw [fixedFieldsRead, h]; rfl

theorem completeFrame_good {s : State} {i : Instr} (good : crcOk (rxFrame s) = true)
    (decoded : decode (rxFrame s) = .ok (i, [])) : completeFrame s = exec i s := by
  rw [completeFrame, if_pos good, decoded]

theorem completeFrame_bad {s : State} (bad : crcOk (rxFrame s) = false) :
    completeFrame s = .next (dropFrame (countCrcError s)) := by
  rw [completeFrame, bad]; rfl

/-- The last byte of a frame, in either reading state, completes the frame (R283, R284). -/
theorem byteStep_completes {s : State} (room : s.rxLen < bufSize) (begun : 2 ≤ s.rxLen) (last : s.rxNeed = 1)
    (part : (s.rxState = .readFixedFields ∧ readsVariablePart s = false) ∨ s.rxState = .readVariableFields) (b : Byte) :
    byteStep b s = completeFrame { rxAppend b s with rxNeed := 0 } := by
  rcases part with ⟨fixed, whole⟩ | varying
  · rw [byteStep_readFixedFields fixed, readingByte_last room last, fixedFieldsRead_complete]
    have function : rxAt { rxAppend b s with rxNeed := 0 } 1 = rxAt s 1 := rxAt_rxAppend_other s b (by omega)
    rw [readsVariablePart, function]
    exact whole
  · rw [byteStep_readVariableFields varying, readingByte_last room last]

/-! ## A step that takes an event -/

theorem cancelCheckFires_of_not_pending {s : State} (h : s.cancelPending = false) : cancelCheckFires s = false := by
  simp [cancelCheckFires, h]

theorem cancelCheckFires_of_ended {s : State} (h : s.runStatus ≠ .running) : cancelCheckFires s = false := by
  simp [cancelCheckFires, h]

/-- The state with other inputs to come. -/
abbrev withInputs (rest : List Input) (s : State) : State := { s with inputs := rest }

/-- Outside `AwaitID` a running engine takes the next event. -/
theorem step_session_of_ne {s : State} {e : Event} {rest : List Input} (h : s.rxState ≠ .awaitId)
    (hi : s.inputs = .session e :: rest) (hr : s.runStatus = .running) :
    step s = sessionEvent e (withInputs rest s) :=
  step_session (cancelCheckFires_of_ne h) hi hr

/-- An ended run lets an event pass (R26; log 6). -/
theorem step_session_of_ended {s : State} {e : Event} {rest : List Input} (ended : s.runStatus ≠ .running)
    (hi : s.inputs = .session e :: rest) : step s = .next { s with inputs := rest } := by
  obtain ⟨fires, -⟩ | ⟨-, none, -⟩ | ⟨-, x, rest', some, taken⟩ := step_cases s
  · rw [cancelCheckFires_of_ended ended] at fires; cases fires
  · rw [hi] at none; cases none
  · rw [hi] at some
    cases some
    exact taken.trans (if_neg ended)

/-! ## Timeouts, polls and cancels -/

theorem timeoutStep_awaitFunction {s : State} (h : s.rxState = .awaitFunction) :
    timeoutStep s = .next (dropFrame s) := by
  rw [timeoutStep, h]

theorem timeoutStep_reading {s : State} (h : s.rxState = .readFixedFields ∨ s.rxState = .readVariableFields) :
    timeoutStep s = .next (dropPartialFrame s) := by
  rcases h with h | h <;> (rw [timeoutStep, h]; rfl)

theorem quietStep_silenceWait {s : State} (h : s.rxState = .silenceWait) :
    quietStep s = .next { s with rxState := .awaitId } := by
  rw [quietStep, h]

/-- The comparison of R43 in integers. -/
theorem le_elapsed_iff (s : State) (interval : Nat) :
    interval ≤ elapsed s ↔ (interval : Int) ≤ ((s.tick : Int) - (s.t0 : Int)) % ((2 ^ s.cfg.tickW : Nat) : Int) := by
  have modulus : ((2 ^ s.cfg.tickW : Nat) : Int) ≠ 0 := by positivity
  have nonneg := Int.emod_nonneg ((s.tick : Int) - (s.t0 : Int)) modulus
  rw [elapsed]
  omega

theorem noDataStep_awaitId {s : State} (h : s.rxState = .awaitId) : noDataStep s = .next s := by
  rw [noDataStep, h]

theorem noDataStep_bounded {s : State} (h : s.rxState ≠ .awaitId) (h' : s.rxState ≠ .silenceWait) :
    noDataStep s = if s.cfg.tNocomm.val ≤ elapsed s then timeoutStep s else .next s := by
  unfold noDataStep
  split
  exacts [absurd ‹_› h, rfl, rfl, rfl, absurd ‹_› h']

theorem noDataStep_silenceWait {s : State} (h : s.rxState = .silenceWait) :
    noDataStep s = if s.cfg.tQuiet.val ≤ elapsed s then quietStep s else .next s := by
  rw [noDataStep, h]

/-- Outside `AwaitID` a cancel is accepted or deferred, as the policy says (R292). -/
theorem cancelStep_of_ne {s : State} (h : s.rxState ≠ .awaitId) : cancelStep s = cancelInWait s := if_neg h

theorem cancelStep_awaitId {s : State} (h : s.rxState = .awaitId) : cancelStep s = completeRun s := if_pos h

theorem completeRun_of_not_pending {s : State} (h : s.cancelPending = false) :
    completeRun s = { s with runStatus := .completed } := by
  rw [completeRun, ← h]

/-! ## The obligations -/

/-- Settles O20: the step is the event's own, and in `AwaitID` each event has one equation. -/
theorem awaitIdTakesOnlyTheSlaveIdentity : Obligations.AwaitIdTakesOnlyTheSlaveIdentity := by
  intro s rest running waiting notPending
  have hc := cancelCheckFires_of_not_pending notPending
  have takes {e : Event} (hi : s.inputs = .session e :: rest) : step s = sessionEvent e (withInputs rest s) :=
    step_session hc hi running
  refine ⟨fun b hi mine => ⟨s.tick, ?_⟩, fun b hi other => ?_, fun hi => ?_, fun hi => ?_⟩
  · rw [takes hi, sessionEvent, byteStep_awaitId (s := withInputs rest s) waiting, awaitIdByte, if_pos mine]; rfl
  · rw [takes hi, sessionEvent, byteStep_awaitId (s := withInputs rest s) waiting, awaitIdByte, if_neg other]
  · rw [takes hi, sessionEvent, cancelStep_awaitId (s := withInputs rest s) waiting,
      completeRun_of_not_pending (s := withInputs rest s) notPending]
  · rw [takes hi, sessionEvent, timeoutStep, waiting]

/-- Settles O21: the byte is the wire byte of its function code. -/
theorem supportedFunctionCodeStartsFixedFields : Obligations.SupportedFunctionCodeStartsFixedFields := by
  rintro s b rest f running waiting hi rfl
  refine ⟨s.tick, ?_⟩
  rw [step_session_of_ne (by rw [waiting]; decide) hi running, sessionEvent,
    byteStep_awaitFunction (s := withInputs rest s) waiting, awaitFunctionByte_functionByte]
  rfl

/-- Settles O22: an early byte is stored whatever the part leads to; the seventh byte is the byte-count. -/
theorem readingStatesStoreEachByte : Obligations.ReadingStatesStoreEachByte := by
  intro s b rest running room hi
  refine ⟨fun early part => ⟨s.tick, ?_⟩, fun last fixed seventh function => ⟨s.tick, ?_⟩⟩
  · rcases part with fixed | varying
    · rw [step_session_of_ne (by rw [fixed]; decide) hi running, sessionEvent,
        byteStep_readFixedFields (s := withInputs rest s) fixed, readingByte_early (s := withInputs rest s) room early]
      rfl
    · rw [step_session_of_ne (by rw [varying]; decide) hi running, sessionEvent,
        byteStep_readVariableFields (s := withInputs rest s) varying, readingByte_early (s := withInputs rest s) room early]
      rfl
  · have same : rxAt { rxAppend b (withInputs rest s) with rxNeed := 0 } 1 = rxAt s 1 :=
      rxAt_rxAppend_other s b (by omega)
    have count : rxAt { rxAppend b (withInputs rest s) with rxNeed := 0 } 6 = b := by
      rw [← seventh]
      exact rxAt_rxAppend_same room b
    rw [step_session_of_ne (by rw [fixed]; decide) hi running, sessionEvent,
      byteStep_readFixedFields (s := withInputs rest s) fixed, readingByte_last (s := withInputs rest s) room last,
      fixedFieldsRead_variable ((readsVariablePart_iff _).2 (by rwa [same])), count]
    rfl

/-- Settles O23: the last byte completes the frame, which is checked and then decoded. -/
theorem completeFrameIsCheckedThenRun : Obligations.CompleteFrameIsCheckedThenRun := by
  intro s b rest running last begun room hi part
  have whole : (s.rxState = .readFixedFields ∧ readsVariablePart s = false) ∨ s.rxState = .readVariableFields :=
    part.imp_left fun ⟨fixed, not15, not16⟩ =>
      ⟨fixed, Bool.eq_false_iff.2 fun reads => ((readsVariablePart_iff s).1 reads).elim not15 not16⟩
  have away : s.rxState ≠ .awaitId := by
    rcases part with ⟨state, -⟩ | state <;> (rw [state]; decide)
  have frame : rxFrame { rxAppend b (withInputs rest s) with rxNeed := 0 } = rxFrame s ++ [b] :=
    rxFrame_rxAppend room b
  rw [step_session_of_ne away hi running, sessionEvent, byteStep_completes (s := withInputs rest s) room begun last whole]
  rw [← frame]
  exact ⟨fun good i decoded => completeFrame_good good decoded, fun bad => completeFrame_bad bad⟩

/-- Settles O25: each timeout by its state; a byte outside the map drops the frame. -/
theorem abortsChangeOnlySequencingRegisters : Obligations.AbortsChangeOnlySequencingRegisters := by
  intro s rest running
  refine ⟨fun hi part => ?_, fun b hi waiting unsupported => ?_⟩
  · rcases part with waiting | reading
    · refine ⟨s.rxNeed, ?_, fun _ => rfl, fun other => absurd waiting other⟩
      rw [step_session_of_ne (by rw [waiting]; decide) hi running, sessionEvent,
        timeoutStep_awaitFunction (s := withInputs rest s) waiting]
      rfl
    · have away : s.rxState ≠ .awaitId ∧ s.rxState ≠ .awaitFunction := by
        rcases reading with state | state <;> (rw [state]; decide)
      refine ⟨0, ?_, fun waiting => absurd waiting away.2, fun _ => rfl⟩
      rw [step_session_of_ne away.1 hi running, sessionEvent, timeoutStep_reading (s := withInputs rest s) reading]
      rfl
  · rw [step_session_of_ne (by rw [waiting]; decide) hi running, sessionEvent,
      byteStep_awaitFunction (s := withInputs rest s) waiting, awaitFunctionByte_unsupported unsupported]
    rfl

/-- Settles O26: each event by its equation in `SilenceWait`. -/
theorem silenceWaitDrainsUntilQuiet : Obligations.SilenceWaitDrainsUntilQuiet := by
  intro s rest running waiting
  have away : s.rxState ≠ .awaitId := by rw [waiting]; decide
  refine ⟨fun b hi => ?_, fun hi => ?_⟩
  · rw [step_session_of_ne away hi running, sessionEvent, byteStep_silenceWait (s := withInputs rest s) waiting]; rfl
  · rw [step_session_of_ne away hi running, sessionEvent, quietStep_silenceWait (s := withInputs rest s) waiting]

/-- Settles O27: the policy is read off the configuration; under `either` the free value decides. -/
theorem cancelFollowsThePolicy : Obligations.CancelFollowsThePolicy := by
  intro s rest running
  refine ⟨fun away hi => ?_, fun waiting pending => ?_⟩
  · rw [step_session_of_ne away hi running, sessionEvent, cancelStep_of_ne (s := withInputs rest s) away, cancelInWait]
    refine ⟨fun always => ?_, fun never => ?_, fun either => ?_⟩
    · rw [always]; rfl
    · rw [never]; rfl
    · rw [either]
      by_cases accepts : Config.acceptsCancel s.freeCount = true
      · exact .inl (congrArg Host.Outcome.next (if_pos accepts))
      · exact .inr (congrArg Host.Outcome.next (if_neg accepts))
  · obtain ⟨-, taken⟩ | ⟨quiet, -⟩ | ⟨quiet, -⟩ := step_cases s
    · exact taken
    all_goals simp [cancelCheckFires, running, waiting, pending] at quiet

/-- Settles O28: an event passes; the host's operation does not ask for a running engine. -/
theorem endedRunWaitsForReentry : Obligations.EndedRunWaitsForReentry := by
  intro s rest ended
  refine ⟨fun e hi => step_session_of_ended ended hi, fun hi => ?_⟩
  rw [step_host (cancelCheckFires_of_ended ended) hi]
  exact if_neg ended

/-- Settles O29: in each state the comparison of the model is the one in integers. -/
theorem pollTimesOutWhenTheIntervalHasElapsed : Obligations.PollTimesOutWhenTheIntervalHasElapsed := by
  intro s rest running hc hi wait
  have due (interval : Nat) : interval ≤ elapsed (withInputs rest s) ↔ (interval : Int) ≤ wait :=
    le_elapsed_iff (withInputs rest s) interval
  rw [step_session hc hi running, sessionEvent]
  refine ⟨fun waiting => noDataStep_awaitId (s := withInputs rest s) waiting, fun reading => ?_, fun waiting => ?_,
    fun waiting => ?_⟩
  · have away : s.rxState ≠ .awaitId ∧ s.rxState ≠ .silenceWait := by
      rcases reading with state | state <;> (rw [state]; decide)
    rw [noDataStep_bounded (s := withInputs rest s) away.1 away.2, timeoutStep_reading (s := withInputs rest s) reading]
    exact if_congr (due _) rfl rfl
  · rw [noDataStep_bounded (s := withInputs rest s) (by rw [waiting]; decide) (by rw [waiting]; decide),
      timeoutStep_awaitFunction (s := withInputs rest s) waiting]
    exact if_congr (due _) rfl rfl
  · rw [noDataStep_silenceWait (s := withInputs rest s) waiting, quietStep_silenceWait (s := withInputs rest s) waiting]
    exact if_congr (due _) rfl rfl

/-- Settles O60: no time has elapsed, and each interval is at least one tick. -/
theorem noTimeoutBeforeTimePasses : Obligations.NoTimeoutBeforeTimePasses := by
  refine ⟨fun c => ⟨c.tNocomm.property, c.tQuiet.property⟩, fun s rest hc hi began => ?_⟩
  by_cases running : s.runStatus = .running
  · have nothing : elapsed (withInputs rest s) = 0 := elapsed_of_t0_eq began
    rw [step_session hc hi running]
    exact noDataStep_early (by rw [nothing]; exact s.cfg.tNocomm.property) (by rw [nothing]; exact s.cfg.tQuiet.property)
  · exact step_session_of_ended running hi

end Sys2Proof.Machine
end

section
/-! PROOFS. A whole frame delivered byte by byte (spec/47_receiver.md R280 to R285): the receiver follows the length tables
up to the last byte, which runs the instruction. -/

namespace Sys2Proof.Machine

open Sys2Proof

/-! ## Runs of several steps -/

/-- A run of `m + n` steps continues where its first `m` steps lead. -/
theorem run_add {M : Host.Core} {m n : Nat} {s u : M.State} (h : M.run m s = .next u) : M.run (m + n) s = M.run n u := by
  induction m generalizing s with
  | zero =>
    cases h
    rw [Nat.zero_add]
  | succ m ih =>
    rw [Nat.add_right_comm, Host.Core.run]
    rw [Host.Core.run] at h
    cases first : M.step s with
    | next s' =>
      simp only [first] at h
      exact ih h
    | fault r => simp only [first] at h; cases h
    | refused r => simp only [first] at h; cases h

theorem run_one (M : Host.Core) (s : M.State) : M.run 1 s = M.step s := by
  cases first : M.step s <;> simp only [Host.Core.run, first]

/-! ## The shape of an encoded frame -/

/-- The frame of a well-formed instruction is as long as the receiver's tables say (R95, R96). -/
theorem encode_shape {i : Instr} (hwf : i.wf = true) : ∃ rest,
    encode i = instrId i :: functionByte (instrFunction i) :: rest ∧ rest.length = restLength (instrFunction i) rest := by
  cases i with
  | wrcoils id a n bc data | wrhrs id a n bc data =>
    have counted : data.length = bc.toNat := of_decide_eq_true hwf
    refine ⟨_, rfl, ?_⟩
    rw [restLength_of_variable rfl]
    show (data ++ crcBytes _).length + 5 = 5 + (bc.toNat + 2)
    rw [List.length_append, counted, Nat.add_comm]
    rfl
  | _ => exact ⟨_, rfl, rfl⟩

/-! ## Bytes taken in -/

/-- The inputs that deliver a byte sequence. -/
abbrev delivery (bytes : List Byte) : List Input := bytes.map fun b => .session (.rxByte b)

/-- `s` with the inputs, the receive buffer, the sequencing registers and the recorded start of the wait of `u`. -/
def withReceiverOf (u s : State) : State :=
  { s with inputs := u.inputs, rxBuf := u.rxBuf, rxState := u.rxState, rxLen := u.rxLen, rxNeed := u.rxNeed, t0 := u.t0 }

/-- Only the receiver has moved from `s` to `u`. -/
def OnlyReceived (s u : State) : Prop := u = withReceiverOf u s

theorem OnlyReceived.field {α : Type} {s u : State} (h : OnlyReceived s u) (register : State → α) :
    register u = register (withReceiverOf u s) := congrArg register h

theorem OnlyReceived.trans {s u v : State} (h : OnlyReceived s u) (h' : OnlyReceived u v) : OnlyReceived s v :=
  Eq.trans h' (h.field (withReceiverOf v))

/-- The receiver has come from `s` to `u`: it is in `state` with `bytes` in its buffer, `need` bytes short of the end of the
part, and `inputs` are to come. -/
structure Receiving (s : State) (state : RxState) (bytes : List Byte) (need : Nat) (inputs : List Input) (u : State) :
    Prop where
  onlyReceived : OnlyReceived s u
  rxState : u.rxState = state
  frame : rxFrame u = bytes
  rxLen : u.rxLen = bytes.length
  rxNeed : u.rxNeed = need
  inputs : u.inputs = inputs

/-- A byte stored at index `k` extends the first `k` bytes of the buffer. -/
theorem rxFrame_stored (s : State) {k : Nat} (room : k < bufSize) (b : Byte) {t : State}
    (buffer : t.rxBuf = s.rxBuf.setIfInBounds k b) (length : t.rxLen = k + 1) :
    rxFrame t = rxFrame { s with rxLen := k } ++ [b] :=
  (rxFrame_congr (s := rxAppend b { s with rxLen := k }) buffer length).trans (rxFrame_rxAppend room b)

theorem rxAt_eq_rxFrame_getD {s : State} {j : Nat} (h : j < s.rxLen) : rxAt s j = (rxFrame s).getD j 0x00#8 := by
  rw [rxAt, rxFrame, List.getD_eq_getElem?_getD, List.getD_eq_getElem?_getD, List.getElem?_take_of_lt h]

section
variable {s : State} (running : s.runStatus = .running) {bytes : List Byte} {rest : List Input}
include running

/-- The slave identity begins a frame (R281). -/
theorem receives_id (waiting : s.rxState = .awaitId) (notPending : s.cancelPending = false)
    (inputs : s.inputs = delivery (s.cfg.slaveId :: bytes) ++ rest) : ∃ u, step s = .next u ∧
      Receiving s .awaitFunction [s.cfg.slaveId] s.rxNeed (delivery bytes ++ rest) u := by
  obtain ⟨begins, -⟩ := awaitIdTakesOnlyTheSlaveIdentity s (delivery bytes ++ rest) running waiting notPending
  obtain ⟨t0', stepped⟩ := begins s.cfg.slaveId inputs rfl
  exact ⟨_, stepped, rfl, rfl, rxFrame_stored s (k := 0) (by decide) _ rfl rfl, rfl, rfl, rfl⟩

/-- The function code starts the fixed fields (R282). -/
theorem Receiving.function {u : State} {id : Byte} {f : FunctionCode} {need : Nat}
    (h : Receiving s .awaitFunction [id] need (delivery (functionByte f :: bytes) ++ rest) u) : ∃ v, step u = .next v ∧
      Receiving s .readFixedFields [id, functionByte f] (fixedLen f) (delivery bytes ++ rest) v := by
  obtain ⟨t0', stepped⟩ := supportedFunctionCodeStartsFixedFields u _ (delivery bytes ++ rest) f
    ((h.onlyReceived.field State.runStatus).trans running) h.rxState h.inputs rfl
  refine ⟨_, stepped, h.onlyReceived.trans rfl, rfl, ?_, rfl, rfl, rfl⟩
  have begun : rxFrame { u with rxLen := 1 } = [id] :=
    (rxFrame_congr (s := u) (t := { u with rxLen := 1 }) rfl h.rxLen.symm).trans h.frame
  rw [rxFrame_stored u (k := 1) (by decide) _ rfl rfl, begun]
  rfl

/-- A byte that does not complete its part is stored (R283, R284). -/
theorem Receiving.stores {state : RxState} (part : state = .readFixedFields ∨ state = .readVariableFields) {b : Byte}
    {u : State} {need : Nat} (h : Receiving s state bytes need (delivery [b] ++ rest) u) (room : bytes.length < bufSize)
    (early : 1 < need) : ∃ v, step u = .next v ∧ Receiving s state (bytes ++ [b]) (need - 1) rest v := by
  rw [← h.rxLen] at room
  obtain ⟨stores, -⟩ := readingStatesStoreEachByte u b rest ((h.onlyReceived.field State.runStatus).trans running) room
    h.inputs
  obtain ⟨t0', stepped⟩ := stores (by rwa [h.rxNeed]) (by rwa [h.rxState])
  exact ⟨_, stepped, h.onlyReceived.trans rfl, h.rxState,
    (rxFrame_stored u room b rfl rfl).trans (congrArg (· ++ [b]) h.frame), by simp [h.rxLen],
    congrArg (· - 1) h.rxNeed, rfl⟩

/-- Bytes that do not complete their part are stored one by one. -/
theorem Receiving.reads {state : RxState} (part : state = .readFixedFields ∨ state = .readVariableFields)
    {more : List Byte} {u : State} {need : Nat} (h : Receiving s state bytes need (delivery more ++ rest) u)
    (room : bytes.length + more.length < bufSize) (short : more.length < need) :
    ∃ v, Host.Core.run core more.length u = .next v ∧
      Receiving s state (bytes ++ more) (need - more.length) rest v := by
  induction more generalizing u bytes need with
  | nil => exact ⟨u, rfl, by simpa using h⟩
  | cons b more ih =>
    rw [List.length_cons] at room short
    obtain ⟨u', stepped, stored⟩ := h.stores (b := b) (rest := delivery more ++ rest) running part (by omega) (by omega)
    obtain ⟨v, ran, received⟩ := ih stored (by rw [List.length_append, List.length_singleton]; omega) (by omega)
    refine ⟨v, ?_, by simpa [Nat.sub_sub, Nat.add_comm] using received⟩
    rw [List.length_cons, Nat.add_comm, run_add ((run_one core u).trans stepped)]
    exact ran

/-- The byte-count asks for the variable part (R283, R284). -/
theorem Receiving.byteCount {u : State} {bc : Byte}
    (h : Receiving s .readFixedFields bytes 1 (delivery [bc] ++ rest) u) (six : bytes.length = 6)
    (function : bytes.getD 1 0x00#8 = 0x0F#8 ∨ bytes.getD 1 0x00#8 = 0x10#8) : ∃ v, step u = .next v ∧
      Receiving s .readVariableFields (bytes ++ [bc]) (bc.toNat + 2) rest v := by
  have seventh : u.rxLen = 6 := h.rxLen.trans six
  obtain ⟨-, counts⟩ := readingStatesStoreEachByte u bc rest ((h.onlyReceived.field State.runStatus).trans running)
    (by rw [seventh]; decide) h.inputs
  obtain ⟨t0', stepped⟩ := counts h.rxNeed h.rxState seventh
    (by rwa [rxAt_eq_rxFrame_getD (by rw [seventh]; decide), h.frame])
  exact ⟨_, stepped, h.onlyReceived.trans rfl, rfl,
    (rxFrame_stored u (by rw [seventh]; decide) bc rfl rfl).trans (congrArg (· ++ [bc]) h.frame), by simp [h.rxLen],
    rfl, rfl⟩

/-- The last byte of a good frame runs its instruction (R285). -/
theorem Receiving.last {state : RxState} {u : State} {b : Byte} {i : Instr}
    (h : Receiving s state bytes 1 (delivery [b] ++ rest) u) (begun : 2 ≤ bytes.length) (room : bytes.length < bufSize)
    (part : (state = .readFixedFields ∧ bytes.getD 1 0x00#8 ≠ 0x0F#8 ∧ bytes.getD 1 0x00#8 ≠ 0x10#8)
      ∨ state = .readVariableFields)
    (good : crcOk (bytes ++ [b]) = true) (decoded : decode (bytes ++ [b]) = .ok (i, [])) : ∃ v, step u = exec i v ∧
      rxFrame v = bytes ++ [b] ∧ OnlyReceived s v ∧ v.inputs = rest ∧ v.rxNeed = 0 := by
  rw [← h.rxLen] at begun room
  have function : rxAt u 1 = bytes.getD 1 0x00#8 := by rw [rxAt_eq_rxFrame_getD begun, h.frame]
  obtain ⟨runs, -⟩ := completeFrameIsCheckedThenRun u b rest ((h.onlyReceived.field State.runStatus).trans running) h.rxNeed
    begun room h.inputs (by rwa [h.rxState, function])
  rw [h.frame] at runs
  exact ⟨_, runs good i decoded, (rxFrame_stored u room b rfl rfl).trans (congrArg (· ++ [b]) h.frame),
    h.onlyReceived.trans rfl, rfl, rfl⟩

/-- The rest of a good frame, up to its last byte, from either reading state. -/
theorem Receiving.finishes {state : RxState} {u : State} {more : List Byte} {b : Byte} {i : Instr}
    (h : Receiving s state bytes (more.length + 1) (delivery (more ++ [b]) ++ rest) u) (begun : 2 ≤ bytes.length)
    (room : bytes.length + more.length < bufSize)
    (part : (state = .readFixedFields ∧ bytes.getD 1 0x00#8 ≠ 0x0F#8 ∧ bytes.getD 1 0x00#8 ≠ 0x10#8)
      ∨ state = .readVariableFields)
    (good : crcOk (bytes ++ more ++ [b]) = true) (decoded : decode (bytes ++ more ++ [b]) = .ok (i, [])) :
    ∃ v, Host.Core.run core (more ++ [b]).length u = exec i v ∧
      rxFrame v = bytes ++ more ++ [b] ∧ OnlyReceived s v ∧ v.inputs = rest ∧ v.rxNeed = 0 := by
  have delivered : delivery (more ++ [b]) ++ rest = delivery more ++ (delivery [b] ++ rest) := by simp
  rw [delivered] at h
  obtain ⟨u', ran, received⟩ := h.reads running (part.imp_left fun fixed => fixed.1) room (by omega)
  rw [Nat.add_sub_cancel_left] at received
  have function : (bytes ++ more).getD 1 0x00#8 = bytes.getD 1 0x00#8 := List.getD_append _ _ _ _ begun
  obtain ⟨v, stepped, executed⟩ := received.last running (by rw [List.length_append]; omega)
    (by rwa [List.length_append]) (by rwa [function]) good decoded
  refine ⟨v, ?_, executed⟩
  rw [List.length_append, run_add ran]
  exact (run_one core u').trans stepped

end

/-! ## The parts of a whole frame -/

section
variable {s u : State} (running : s.runStatus = .running) {id : Byte} {f : FunctionCode} {tail : List Byte}
  {rest : List Input} {i : Instr}
  (h : Receiving s .readFixedFields [id, functionByte f] (fixedLen f) (delivery tail ++ rest) u)
  (good : crcOk (id :: functionByte f :: tail) = true) (decoded : decode (id :: functionByte f :: tail) = .ok (i, []))
include running h good decoded

/-- The fixed fields are the whole rest of the frame. -/
theorem Receiving.runs_fixed (whole : ¬ hasVariablePart f = true) (long : tail.length = fixedLen f)
    (bound : tail.length ≤ 262) : ∃ v, Host.Core.run core tail.length u = exec i v ∧
      rxFrame v = id :: functionByte f :: tail ∧ OnlyReceived s v ∧ v.inputs = rest ∧ v.rxNeed = 0 := by
  rw [hasVariablePart_iff, not_or] at whole
  obtain rfl | ⟨more, b, rfl⟩ := List.eq_nil_or_concat tail
  · cases f <;> cases long
  · rw [List.concat_eq_append] at *
    rw [List.length_append, List.length_singleton] at long bound
    rw [← long] at h
    exact h.finishes running (Nat.le_refl 2) (by simp only [List.length_cons, List.length_nil, bufSize]; omega)
      (.inl ⟨rfl, whole⟩) good decoded

/-- The fixed fields end in the byte-count of the variable part. -/
theorem Receiving.runs_variable (varies : hasVariablePart f = true)
    (long : tail.length = 5 + ((tail.getD 4 0x00#8).toNat + 2)) : ∃ v, Host.Core.run core tail.length u = exec i v ∧
      rxFrame v = id :: functionByte f :: tail ∧ OnlyReceived s v ∧ v.inputs = rest ∧ v.rxNeed = 0 := by
  obtain ⟨fields, bc, more, b, rfl, four, counted⟩ := exists_variable_shape long
  have byte := bc.isLt
  have delivered : delivery (fields ++ ([bc] ++ (more ++ [b]))) ++ rest
      = delivery fields ++ (delivery [bc] ++ (delivery (more ++ [b]) ++ rest)) := by simp
  rw [fixedLen_of_variable varies, delivered] at h
  obtain ⟨u3, ran, h3⟩ := h.reads running (.inl rfl) (by simp [four, bufSize]) (by rw [four]; decide)
  rw [four] at h3
  have function : ([id, functionByte f] ++ fields).getD 1 0x00#8 = functionByte f := rfl
  obtain ⟨u4, step4, h4⟩ := h3.byteCount running (by rw [List.length_append, four]; rfl)
    (by rw [function]; exact (hasVariablePart_iff f).1 varies)
  rw [← counted] at h4
  obtain ⟨v, ran5, frame, rest⟩ := h4.finishes running (by simp) (by simp [four, bufSize]; omega) (.inr rfl)
    (by simpa using good) (by simpa using decoded)
  refine ⟨v, ?_, by simpa using frame, rest⟩
  rw [List.length_append, run_add ran, List.length_append, List.length_singleton, run_add ((run_one core u3).trans step4)]
  exact ran5

end

/-! ## The obligation -/

/-- Settles O24: identity and function code, and then the fields, in one part or, for functions 15 and 16, in two. -/
theorem deliveredFrameRunsItsInstruction : Obligations.DeliveredFrameRunsItsInstruction := by
  intro i s rest hwf mine running waiting idle notPending inputs
  have good : crcOk (encode i) = true := crcOk_appendCrc _
  have decoded : decode (encode i) = .ok (i, []) := by
    simpa using decodeOfEncodeIsTheInstruction i [] hwf
  suffices delivered : ∃ v, Host.Core.run core (encode i).length s = exec i v ∧ rxFrame v = encode i ∧ OnlyReceived s v
      ∧ v.inputs = rest ∧ v.rxNeed = 0 by
    obtain ⟨v, ran, frame, received, left, none⟩ := delivered
    refine ⟨v, ran, frame, Eq.trans received ?_⟩
    rw [withReceiverOf, left, none, ← idle]
  obtain ⟨tail, shape, long⟩ := encode_shape hwf
  have bound := restLength_le (instrFunction i) tail
  rw [mine] at shape
  rw [shape] at good decoded inputs ⊢
  obtain ⟨u1, step1, h1⟩ := receives_id running waiting notPending inputs
  obtain ⟨u2, step2, h2⟩ := h1.function running
  have begun : Host.Core.run core (1 + (1 + tail.length)) s = Host.Core.run core tail.length u2 := by
    rw [run_add ((run_one core s).trans step1), run_add ((run_one core u1).trans step2)]
  rw [List.length_cons, List.length_cons, Nat.add_comm, Nat.add_comm tail.length, begun]
  by_cases varies : hasVariablePart (instrFunction i) = true
  · rw [restLength_of_variable varies] at long
    exact h2.runs_variable running good decoded varies long
  · rw [restLength_of_fixed varies] at long bound
    exact h2.runs_fixed running good decoded varies long (by omega)

end Sys2Proof.Machine
end

section
/-! PROOFS. Everything one step can do (spec/47_receiver.md R280 to R296, spec/10_state.md R43, R353): the outcomes of a byte,
of any other input, and of a step. -/

namespace Sys2Proof.Machine

open Sys2Proof

/-! ## Everything an input can do -/

/-- The outcomes of an input that is no byte. -/
inductive OtherInput (s : State) : Host.Outcome State Fault Refusal → Prop where
  | refused : OtherInput s (.refused .eventNotOffered)
  | unchanged : OtherInput s (.next s)
  | dropped (h : s.rxState = .awaitFunction) : OtherInput s (.next (dropFrame s))
  | droppedPartial : OtherInput s (.next (dropPartialFrame s))
  | quiet (h : s.rxState = .silenceWait) : OtherInput s (.next { s with rxState := .awaitId })
  | completed (h : s.rxState = .awaitId) : OtherInput s (.next (completeRun s))
  | accepted : OtherInput s (.next (acceptCancel s))
  | acceptedFreely : OtherInput s (.next (acceptCancel (drawFree s)))
  | deferred : OtherInput s (.next (deferCancel s))
  | deferredFreely : OtherInput s (.next (deferCancel (drawFree s)))
  | read (v : Word) : OtherInput s (.next { s with hostReads := s.hostReads ++ [v] })
  | written (f : Int) (v : Word) : OtherInput s (.next (flatWrite f v s))
  | entered (h : s.runStatus ≠ .running) : OtherInput s (.next (enterLoop s))
  | ticked (ms : Nat) : OtherInput s (.next (advanceTick ms s))

theorem timeoutStep_kind (s : State) : OtherInput s (timeoutStep s) := by
  cases h : s.rxState with
  | awaitId | silenceWait => rw [timeoutStep, h]; exact .refused
  | awaitFunction => rw [timeoutStep_awaitFunction h]; exact .dropped h
  | readFixedFields => rw [timeoutStep_reading (.inl h)]; exact .droppedPartial
  | readVariableFields => rw [timeoutStep_reading (.inr h)]; exact .droppedPartial

theorem quietStep_kind (s : State) : OtherInput s (quietStep s) := by
  cases h : s.rxState with
  | silenceWait => rw [quietStep_silenceWait h]; exact .quiet h
  | _ => rw [quietStep, h]; exact .refused

theorem noDataStep_kind (s : State) : OtherInput s (noDataStep s) := by
  by_cases idle : s.rxState = .awaitId
  · rw [noDataStep_awaitId idle]; exact .unchanged
  by_cases silent : s.rxState = .silenceWait
  · rw [noDataStep_silenceWait silent]
    split
    exacts [quietStep_kind s, .unchanged]
  · rw [noDataStep_bounded idle silent]
    split
    exacts [timeoutStep_kind s, .unchanged]

theorem cancelStep_kind (s : State) : OtherInput s (.next (cancelStep s)) := by
  by_cases idle : s.rxState = .awaitId
  · rw [cancelStep_awaitId idle]; exact .completed idle
  · rw [cancelStep_of_ne idle, cancelInWait]
    cases s.cfg.cancelMidframe with
    | always => exact .accepted
    | never => exact .deferred
    | either =>
      dsimp only
      split
      exacts [.acceptedFreely, .deferredFreely]

theorem inputStep_kind {x : Input} (other : ∀ b, x ≠ .session (.rxByte b)) (s : State) :
    OtherInput s (inputStep x s) := by
  match x, other with
  | .session e, other =>
    rw [inputStep, sessionStep]
    split
    · match e, other with
      | .rxByte b, other => exact absurd rfl (other b)
      | .timeout, _ => exact timeoutStep_kind s
      | .quiet, _ => exact quietStep_kind s
      | .cancel, _ => exact cancelStep_kind s
      | .noData, _ => exact noDataStep_kind s
    · exact .unchanged
  | .host (.flatRead f), _ => exact .read (flatRead s f)
  | .host (.flatWrite f v), _ => exact .written f v
  | .host .enterLoop, _ =>
    by_cases running : s.runStatus = .running
    · rw [inputStep, hostStep, if_pos running]; exact .refused
    · rw [inputStep, hostStep, if_neg running]; exact .entered running
  | .tick ms, _ => exact .ticked ms

/-- The byte `b` has been stored as the last one of its part. -/
def lastStored (b : Byte) (s : State) : State := { rxAppend b s with rxNeed := 0 }

/-- The byte `b` has been stored and counted down. -/
def earlyStored (b : Byte) (s : State) : State := { rxAppend b s with rxNeed := s.rxNeed - 1 }

/-- The outcomes of a byte. -/
inductive ByteInput (b : Byte) (s : State) : Host.Outcome State Fault Refusal → Prop where
  | awaitId (h : s.rxState = .awaitId) : ByteInput b s (.next (awaitIdByte b s))
  | awaitFunction (h : s.rxState = .awaitFunction) : ByteInput b s (.next (awaitFunctionByte b s))
  | silenceWait (h : s.rxState = .silenceWait) : ByteInput b s (.next (startWait s))
  | corrupt (h : s.rxState = .readFixedFields ∨ s.rxState = .readVariableFields) (none : s.rxNeed = 0) :
      ByteInput b s (.fault .sequencerCorrupt)
  | overrun (h : s.rxState = .readFixedFields ∨ s.rxState = .readVariableFields) (full : bufSize ≤ s.rxLen) :
      ByteInput b s (.fault .bufferOverrun)
  | stored (h : s.rxState = .readFixedFields ∨ s.rxState = .readVariableFields) (room : s.rxLen < bufSize)
      (early : 1 < s.rxNeed) : ByteInput b s (.next (startWait (earlyStored b s)))
  | counted (h : s.rxState = .readFixedFields) (room : s.rxLen < bufSize) (last : s.rxNeed = 1)
      (varies : readsVariablePart (lastStored b s) = true) : ByteInput b s (.next (startWait { lastStored b s with
        rxNeed := (rxAt (lastStored b s) 6).toNat + 2, rxState := .readVariableFields }))
  | completed (h : (s.rxState = .readFixedFields ∧ readsVariablePart (lastStored b s) = false)
      ∨ s.rxState = .readVariableFields) (room : s.rxLen < bufSize) (last : s.rxNeed = 1) :
      ByteInput b s (completeFrame (lastStored b s))

theorem byteStep_kind (b : Byte) (s : State) : ByteInput b s (byteStep b s) := by
  cases h : s.rxState with
  | awaitId => rw [byteStep_awaitId h]; exact .awaitId h
  | awaitFunction => rw [byteStep_awaitFunction h]; exact .awaitFunction h
  | silenceWait => rw [byteStep_silenceWait h]; exact .silenceWait h
  | readFixedFields =>
    rw [byteStep_readFixedFields h]
    obtain ⟨none, e⟩ | ⟨-, full, e⟩ | ⟨early, room, e⟩ | ⟨last, room, e⟩ := readingByte_cases b fixedFieldsRead s <;> rw [e]
    · exact .corrupt (.inl h) none
    · exact .overrun (.inl h) full
    · exact .stored (.inl h) room early
    · cases varies : readsVariablePart (lastStored b s) with
      | true => exact (fixedFieldsRead_variable varies) ▸ .counted h room last varies
      | false => exact (fixedFieldsRead_complete varies) ▸ .completed (.inl ⟨h, varies⟩) room last
  | readVariableFields =>
    rw [byteStep_readVariableFields h]
    obtain ⟨none, e⟩ | ⟨-, full, e⟩ | ⟨early, room, e⟩ | ⟨last, room, e⟩ := readingByte_cases b completeFrame s <;> rw [e]
    · exact .corrupt (.inr h) none
    · exact .overrun (.inr h) full
    · exact .stored (.inr h) room early
    · exact .completed (.inr h) room last

/-- A complete frame is a CRC mismatch, or runs its instruction, or is no frame (log 20). -/
theorem completeFrame_cases (s : State) :
    completeFrame s = .next (dropFrame (countCrcError s)) ∨
      (∃ i, decode (rxFrame s) = .ok (i, []) ∧ completeFrame s = exec i s) ∨
      ((∀ i, decode (rxFrame s) ≠ .ok (i, [])) ∧ completeFrame s = .fault .frameNotDecoded) := by
  cases good : crcOk (rxFrame s) with
  | false => exact .inl (completeFrame_bad good)
  | true =>
    by_cases decodes : ∃ i, decode (rxFrame s) = .ok (i, [])
    · obtain ⟨i, decoded⟩ := decodes
      exact .inr (.inl ⟨i, decoded, completeFrame_good good decoded⟩)
    · refine .inr (.inr ⟨not_exists.1 decodes, ?_⟩)
      rw [completeFrame, if_pos good]
      split
      · next i decoded => exact absurd ⟨i, decoded⟩ decodes
      · rfl
      · rfl

/-- Everything a step can be: the pending cancel is taken, nothing happens, a byte is taken, or another input is. -/
theorem step_kind (s : State) :
    (s.rxState = .awaitId ∧ step s = .next (completeRun s)) ∨ step s = .next s ∨
      (∃ b rest, s.inputs = .session (.rxByte b) :: rest ∧
        ((s.runStatus = .running ∧ step s = byteStep b (withInputs rest s))
          ∨ step s = .next (withInputs rest s))) ∨
      (∃ rest, OtherInput (withInputs rest s) (step s)) := by
  obtain ⟨fires, e⟩ | ⟨-, -, e⟩ | ⟨-, x, rest, hi, e⟩ := step_cases s
  · refine .inl ⟨?_, e⟩
    simp only [cancelCheckFires, Bool.and_eq_true, decide_eq_true_eq] at fires
    exact fires.2
  · exact .inr (.inl e)
  · by_cases byte : ∃ b, x = .session (.rxByte b)
    · obtain ⟨b, rfl⟩ := byte
      refine .inr (.inr (.inl ⟨b, rest, hi, ?_⟩))
      by_cases running : s.runStatus = .running
      · exact .inl ⟨running, e.trans (if_pos running)⟩
      · exact .inr (e.trans (if_neg running))
    · rw [e]
      exact .inr (.inr (.inr ⟨rest, inputStep_kind (fun b same => byte ⟨b, same⟩) _⟩))

end Sys2Proof.Machine
end

section
/-! PROOFS. What every step keeps: the configuration, DiagnosticRegister, the invariant; what only a byte can move; and that
no step faults under the invariant (spec/10_state.md, spec/20_memory.md R61, spec/70_reset_and_hazards.md R396). -/

namespace Sys2Proof.Machine

open Sys2Proof

/-! ## Inputs that are no byte reach no counter, no mode and no line (R41, R289, R293, R349) -/

/-- The configuration, the counters, the mode and the line are as before. -/
def NothingCounted (s t : State) : Prop :=
  t.cfg = s.cfg ∧ CountersAre t s.messageCount s.eventCount s.crcErrorCount s.diagnosticRegister s.exceptionErrorCount
      s.noResponseCount
    ∧ t.listenOnly = s.listenOnly ∧ t.line = s.line

theorem nothingCounted_flatWrite (f : Int) (v : Word) (s : State) : NothingCounted s (flatWrite f v s) := by
  rw [flatWrite_eq]
  exact ⟨rfl, ⟨rfl, rfl, rfl, rfl, rfl, rfl⟩, rfl, rfl⟩

theorem OtherInput.nothingCounted {s t : State} {outcome : Host.Outcome State Fault Refusal} (kind : OtherInput s outcome)
    (h : outcome = .next t) : NothingCounted s t := by
  cases kind with
  | refused => cases h
  | written f v => cases h; exact nothingCounted_flatWrite f v s
  | _ => cases h; exact ⟨rfl, ⟨rfl, rfl, rfl, rfl, rfl, rfl⟩, rfl, rfl⟩

/-- Settles O36: every kind of step but a byte leaves them alone. -/
theorem onlyBytesMoveCountersModeAndLine : Obligations.OnlyBytesMoveCountersModeAndLine := by
  intro s t noByte h
  suffices nothing : NothingCounted s t from nothing.2
  obtain ⟨-, e⟩ | e | ⟨b, rest, hi, -⟩ | ⟨rest, kind⟩ := step_kind s
  · cases e.symm.trans h; exact ⟨rfl, ⟨rfl, rfl, rfl, rfl, rfl, rfl⟩, rfl, rfl⟩
  · cases e.symm.trans h; exact ⟨rfl, ⟨rfl, rfl, rfl, rfl, rfl, rfl⟩, rfl, rfl⟩
  · exact absurd hi (noByte b rest)
  · exact kind.nothingCounted h

/-! ## The configuration and DiagnosticRegister -/

/-- The configuration is as before, and DiagnosticRegister still 0 where it was (R6, R32, R77). -/
def KeepsConstants (s t : State) : Prop :=
  t.cfg = s.cfg ∧ (s.diagnosticRegister = 0x0000#16 → t.diagnosticRegister = 0x0000#16)

theorem NothingCounted.keepsConstants {s t : State} (h : NothingCounted s t) : KeepsConstants s t := by
  obtain ⟨cfg, ⟨-, -, -, diagnostic, -⟩, -⟩ := h
  exact ⟨cfg, fun zero => diagnostic.trans zero⟩

theorem exec_keepsConstants {i : Instr} {s t : State} (h : exec i s = .next t) : KeepsConstants s t := by
  obtain ⟨u, effect, concludes⟩ := exec_effect h
  obtain ⟨-, cfg, -, diagnostic, -⟩ := concludes.engine
  exact ⟨cfg.trans (effect.session.field State.cfg), fun zero => diagnostic.trans (effect.diagnostic zero)⟩

theorem completeFrame_keepsConstants {s t : State} (h : completeFrame s = .next t) : KeepsConstants s t := by
  obtain e | ⟨i, -, e⟩ | ⟨-, e⟩ := completeFrame_cases s
  · cases e.symm.trans h; exact ⟨rfl, id⟩
  · exact exec_keepsConstants (e.symm.trans h)
  · cases e.symm.trans h

theorem awaitIdByte_keepsConstants (b : Byte) (s : State) : KeepsConstants s (awaitIdByte b s) := by
  unfold awaitIdByte
  split
  exacts [⟨rfl, id⟩, ⟨rfl, id⟩]

theorem awaitFunctionByte_keepsConstants (b : Byte) (s : State) : KeepsConstants s (awaitFunctionByte b s) := by
  unfold awaitFunctionByte
  split
  exacts [⟨rfl, id⟩, ⟨rfl, id⟩]

theorem ByteInput.keepsConstants {b : Byte} {s t : State} {outcome : Host.Outcome State Fault Refusal}
    (kind : ByteInput b s outcome) (h : outcome = .next t) : KeepsConstants s t := by
  cases kind with
  | awaitId => cases h; exact awaitIdByte_keepsConstants b s
  | awaitFunction => cases h; exact awaitFunctionByte_keepsConstants b s
  | silenceWait | stored | counted => cases h; exact ⟨rfl, id⟩
  | corrupt | overrun => cases h
  | completed => exact completeFrame_keepsConstants (s := lastStored b s) h

theorem step_keepsConstants {s t : State} (h : step s = .next t) : KeepsConstants s t := by
  obtain ⟨-, e⟩ | e | ⟨b, rest, -, ⟨-, e⟩ | e⟩ | ⟨rest, kind⟩ := step_kind s
  · cases e.symm.trans h; exact ⟨rfl, id⟩
  · cases e.symm.trans h; exact ⟨rfl, id⟩
  · exact (byteStep_kind b (withInputs rest s)).keepsConstants (e.symm.trans h)
  · cases e.symm.trans h; exact ⟨rfl, id⟩
  · exact (kind.nothingCounted h).keepsConstants

/-- Settles O34: the first half of what `step_keepsConstants` says. -/
theorem noStepChangesTheConfiguration : Obligations.NoStepChangesTheConfiguration := fun _ _ h =>
  (step_keepsConstants h).1

/-- Settles O35: the second half. -/
theorem diagnosticRegisterStaysZero : Obligations.DiagnosticRegisterStaysZero := fun _ _ zero h =>
  (step_keepsConstants h).2 zero

/-! ## The receive buffer -/

theorem rxAt_stored_same {s t : State} {k : Nat} {b : Byte} (buffer : t.rxBuf = s.rxBuf.setIfInBounds k b)
    (room : k < bufSize) : rxAt t k = b :=
  (rxAt_congr (s := rxAppend b { s with rxLen := k }) buffer k).trans (rxAt_rxAppend_same room b)

theorem rxAt_stored_other {s t : State} {k j : Nat} {b : Byte} (buffer : t.rxBuf = s.rxBuf.setIfInBounds k b)
    (other : j ≠ k) : rxAt t j = rxAt s j :=
  (rxAt_congr (s := rxAppend b { s with rxLen := k }) buffer j).trans
    (rxAt_rxAppend_other { s with rxLen := k } b other)

/-- A buffer that holds as many bytes as the length tables say decodes whole (R92, R95, R96). -/
theorem decode_rxFrame {s : State} {f : FunctionCode} (function : functionOfByte (rxAt s 1) = some f)
    (complete : s.rxLen = 2 + (fixedLen f + if hasVariablePart f = true then (rxAt s 6).toNat + 2 else 0))
    (room : s.rxLen ≤ bufSize) : ∃ i, decode (rxFrame s) = .ok (i, []) := by
  have length : (rxFrame s).length = s.rxLen := by simpa [rxFrame] using room
  have second : rxAt s 1 = (rxFrame s).getD 1 0x00#8 := rxAt_eq_rxFrame_getD (by omega)
  have seventh : hasVariablePart f = true → rxAt s 6 = (rxFrame s).getD 6 0x00#8 := fun varies =>
    rxAt_eq_rxFrame_getD (by rw [complete, fixedLen_of_variable varies, if_pos varies]; omega)
  match shape : rxFrame s with
  | [] | [_] => rw [shape] at length; simp only [List.length_nil, List.length_cons] at length; omega
  | id :: fc :: rest =>
    rw [shape] at length second seventh
    have byte : functionByte f = fc := (functionByte_of_functionOfByte function).trans second
    have long : restLength f rest = rest.length := by
      rw [List.length_cons, List.length_cons] at length
      by_cases varies : hasVariablePart f = true
      · rw [if_pos varies, seventh varies] at complete
        rw [restLength, if_pos varies]
        exact Nat.add_left_cancel (complete.symm.trans (length.symm.trans (Nat.add_comm _ 2)))
      · rw [if_neg varies] at complete
        rw [restLength, if_neg varies]
        omega
    obtain ⟨i, decoded⟩ := decodeFields_of_length id f long.le
    rw [long, List.drop_length] at decoded
    exact ⟨i, by rw [← byte, decode_functionByte, decoded]⟩

/-! ## The invariant: what each kind of step keeps of it -/

/-- Settles O31: everything is empty, and 0 fits any width. -/
theorem resetMeetsTheInvariant : Obligations.ResetMeetsTheInvariant := fun _ =>
  ⟨rfl, rfl, rfl, (timersOk_iff _).2 ⟨Nat.two_pow_pos _, Nat.two_pow_pos _⟩⟩

/-- A move of the receiver alone: only the sequencing registers have to be looked at. -/
theorem inv_of_sameStore {s t : State} (inv : Inv s) (hmem : t.mem = s.mem) (hcfg : t.cfg = s.cfg) (htick : t.tick = s.tick)
    (ht0 : t.t0 = s.t0 ∨ t.t0 = s.tick) (sequencer : sequencerOk t = true)
    (run : t.runStatus = .running ∨ t.rxState = .awaitId) : Inv t := by
  obtain ⟨store, -, -, timers⟩ := inv
  obtain ⟨tick, t0⟩ := (timersOk_iff s).1 timers
  refine ⟨(storeOk_congr hmem hcfg).trans store, sequencer, (runStatusOk_iff t).2 run, (timersOk_iff t).2 ?_⟩
  rw [hcfg, htick]
  rcases ht0 with e | e <;> rw [e]
  exacts [⟨tick, t0⟩, ⟨tick, tick⟩]

/-- In every state the receiver has read no countdown but in the two reading states. -/
theorem rxNeed_eq_zero {s : State} (inv : Inv s) (away : s.rxState ≠ .readFixedFields ∧ s.rxState ≠ .readVariableFields) :
    s.rxNeed = 0 := by
  obtain ⟨-, sequencer, -⟩ := inv
  cases h : s.rxState with
  | awaitId => exact ((sequencerOk_awaitId h).1 sequencer).2
  | awaitFunction => obtain ⟨-, need, -⟩ := (sequencerOk_awaitFunction h).1 sequencer; exact need
  | silenceWait => obtain ⟨-, need, -⟩ := (sequencerOk_silenceWait h).1 sequencer; exact need
  | readFixedFields => exact absurd h away.1
  | readVariableFields => exact absurd h away.2

theorem inv_awaitId {s t : State} (inv : Inv s) (hmem : t.mem = s.mem) (hcfg : t.cfg = s.cfg) (htick : t.tick = s.tick)
    (ht0 : t.t0 = s.t0) (idle : t.rxState = .awaitId) (length : t.rxLen = 0) (need : t.rxNeed = 0) : Inv t :=
  inv_of_sameStore inv hmem hcfg htick (.inl ht0) ((sequencerOk_awaitId idle).2 ⟨length, need⟩) (.inr idle)

/-! ### The host and the tick -/

/-- A host write lands below its bank's capacity or nowhere (R61, R65). -/
theorem storeOk_flatWrite {s : State} (store : storeOk s = true) (f : Int) (v : Word) :
    storeOk (flatWrite f v s) = true := by
  obtain ⟨wf, -⟩ := (storeOk_iff s).1 store
  rcases named : flatRange f with _ | ⟨b, o⟩
  · rwa [flatWrite_of_flatResolve_none v (flatResolve_of_flatRange_none s.cfg named)]
  by_cases inside : o < bankCap s.cfg b
  · rw [flatWrite_of_inside named inside]
    cases b with
    | bits b =>
      exact storeOk_setBitBank store b (bankWf_bankWrite (bankWf_bitBank wf b) _ _)
        (bankBelow_bankWrite (bankBelow_bitBank store b) inside _)
    | regs b =>
      exact storeOk_setRegBank store b (bankWf_bankWrite (bankWf_regBank wf b) _ _)
        (bankBelow_bankWrite (bankBelow_regBank store b) inside _)
  · rwa [flatWrite_of_outside named inside]

theorem inv_flatWrite {s : State} (inv : Inv s) (f : Int) (v : Word) : Inv (flatWrite f v s) := by
  obtain ⟨store, sequencer, run, timers⟩ := inv
  refine ⟨storeOk_flatWrite store f v, ?_⟩
  rw [flatWrite_eq]
  exact ⟨sequencer, run, timers⟩

theorem inv_advanceTick {s : State} (inv : Inv s) (ms : Nat) : Inv (advanceTick ms s) := by
  obtain ⟨store, sequencer, run, timers⟩ := inv
  obtain ⟨-, t0⟩ := (timersOk_iff s).1 timers
  exact ⟨store, sequencer, run, (timersOk_iff _).2 ⟨Nat.mod_lt _ (Nat.two_pow_pos _), t0⟩⟩

/-! ### The other inputs -/

theorem OtherInput.inv {s t : State} {outcome : Host.Outcome State Fault Refusal} (kind : OtherInput s outcome)
    (inv : Inv s) (h : outcome = .next t) : Inv t := by
  have ⟨_, sequencer, run, _⟩ := inv
  cases kind with
  | refused => cases h
  | unchanged | deferred | deferredFreely | read => cases h; exact inv
  | dropped waiting =>
    cases h
    exact inv_awaitId inv rfl rfl rfl rfl rfl rfl (rxNeed_eq_zero (s := s) inv (by rw [waiting]; decide))
  | droppedPartial | accepted | acceptedFreely => cases h; exact inv_awaitId inv rfl rfl rfl rfl rfl rfl rfl
  | quiet waiting =>
    cases h
    obtain ⟨length, need, -⟩ := (sequencerOk_silenceWait waiting).1 sequencer
    exact inv_awaitId inv rfl rfl rfl rfl rfl length need
  | completed waiting =>
    cases h
    obtain ⟨length, need⟩ := (sequencerOk_awaitId waiting).1 sequencer
    exact inv_awaitId inv rfl rfl rfl rfl waiting length need
  | entered ended =>
    cases h
    have waiting := ((runStatusOk_iff s).1 run).resolve_left ended
    exact inv_awaitId inv rfl rfl rfl rfl rfl rfl (rxNeed_eq_zero (s := s) inv (by rw [waiting]; decide))
  | written f v => cases h; exact inv_flatWrite inv f v
  | ticked ms => cases h; exact inv_advanceTick inv ms

/-! ### A request -/

/-- The receiver is back at the top of the loop after a transaction from `u` (R290, R297 step 6). -/
def BackAtTop (u t : State) : Prop :=
  t.rxLen = 0 ∧ (t.t0 = u.t0 ∨ t.t0 = u.tick)
    ∧ (t.rxState = .awaitId ∨ t.rxState = .silenceWait ∧ u.cfg.silenceWaitEn = true ∧ t.runStatus = u.runStatus)

theorem endTransaction_backAtTop (u : State) : BackAtTop u (endTransaction u) := by
  unfold BackAtTop
  cases en : u.cfg.silenceWaitEn <;> simp [restState, en]

theorem failRun_backAtTop (u : State) : BackAtTop u (failRun u) := ⟨rfl, .inl rfl, .inl rfl⟩

theorem Concludes.backAtTop {lo : Bool} {u t : State} (h : Concludes lo u t) : BackAtTop u t := by
  obtain rfl | ⟨frame, -, rfl⟩ := h
  · exact endTransaction_backAtTop u
  · unfold send transmit
    repeat' split
    · exact endTransaction_backAtTop (settleTxBuf u)
    · exact endTransaction_backAtTop (putOnLine frame [] (settleTxBuf u))
    · exact endTransaction_backAtTop (putOnLine frame _ (settleTxBuf u))
    · exact failRun_backAtTop (putOnLine _ _ (settleTxBuf u))

/-- The instruction runs when the frame is complete: the countdown is 0 and the engine is running. -/
theorem inv_exec {i : Instr} {s t : State} (store : storeOk s = true) (timers : timersOk s = true) (need : s.rxNeed = 0)
    (running : s.runStatus = .running) (h : exec i s = .next t) : Inv t := by
  obtain ⟨u, effect, concludes⟩ := exec_effect h
  obtain ⟨hmem, hcfg, -, -, htick, hneed⟩ := concludes.engine
  obtain ⟨length, t0, state⟩ := concludes.backAtTop
  obtain ⟨ucfg, -, uneed, utick, -⟩ := effect.session.surroundings
  have ut0 : u.t0 = s.t0 := effect.session.field State.t0
  have need' : t.rxNeed = 0 := hneed.trans (uneed.trans need)
  obtain ⟨tick, start⟩ := (timersOk_iff s).1 timers
  refine ⟨(storeOk_congr hmem hcfg).trans (effect.store store), ?_, ?_, (timersOk_iff t).2 ?_⟩
  · obtain idle | ⟨silent, en, -⟩ := state
    · exact (sequencerOk_awaitId idle).2 ⟨length, need'⟩
    · exact (sequencerOk_silenceWait silent).2 ⟨length, need', by rw [hcfg]; exact en⟩
  · refine (runStatusOk_iff t).2 (state.elim .inr fun ⟨_, _, status⟩ => .inl ?_)
    exact status.trans ((effect.session.field State.runStatus).trans running)
  · rw [hcfg, ucfg, htick, utick]
    rcases t0 with e | e <;> rw [e]
    exacts [⟨tick, by rwa [ut0]⟩, ⟨tick, by rwa [utick]⟩]

/-! ### A byte -/

theorem inv_awaitIdByte {s : State} (inv : Inv s) (running : s.runStatus = .running) (waiting : s.rxState = .awaitId)
    (b : Byte) : Inv (awaitIdByte b s) := by
  unfold awaitIdByte
  split
  · next mine =>
    refine inv_of_sameStore inv rfl rfl rfl (.inr rfl) ((sequencerOk_awaitFunction rfl).2 ⟨rfl, ?_, ?_⟩) (.inl running)
    · exact rxNeed_eq_zero (s := s) inv (by rw [waiting]; decide)
    · exact (rxAt_stored_same (s := s) rfl (by decide)).trans mine
  · exact inv

theorem one_le_fixedLen (f : FunctionCode) : 1 ≤ fixedLen f := by
  cases f <;> decide

theorem inv_awaitFunctionByte {s : State} (inv : Inv s) (running : s.runStatus = .running)
    (waiting : s.rxState = .awaitFunction) (b : Byte) : Inv (awaitFunctionByte b s) := by
  have ⟨_, sequencer, _⟩ := inv
  obtain ⟨-, need, mine⟩ := (sequencerOk_awaitFunction waiting).1 sequencer
  unfold awaitFunctionByte
  split
  · next f mapped =>
    refine inv_of_sameStore inv rfl rfl rfl (.inr rfl)
      ((sequencerOk_readFixedFields rfl).2 ⟨?_, Nat.le_refl 2, one_le_fixedLen f, f, ?_, rfl⟩) (.inl running)
    · exact (rxAt_stored_other (s := s) rfl (by decide)).trans mine
    · exact (congrArg functionOfByte (rxAt_stored_same (s := s) rfl (by decide))).trans mapped
  · exact inv_awaitId inv rfl rfl rfl rfl rfl rfl need

theorem inv_startWait {s : State} (inv : Inv s) (running : s.runStatus = .running) : Inv (startWait s) := by
  have ⟨_, sequencer, _⟩ := inv
  exact inv_of_sameStore inv rfl rfl rfl (.inr rfl) sequencer (.inl running)

/-- A byte that does not complete its part (R283, R284): the buffer grows by what the countdown loses. -/
theorem inv_earlyStored {s : State} (inv : Inv s) (running : s.runStatus = .running)
    (reading : s.rxState = .readFixedFields ∨ s.rxState = .readVariableFields) (early : 1 < s.rxNeed) (b : Byte) :
    Inv (startWait (earlyStored b s)) := by
  have ⟨_, sequencer, _⟩ := inv
  have before {j : Nat} (other : j ≠ s.rxLen) : rxAt (startWait (earlyStored b s)) j = rxAt s j :=
    rxAt_rxAppend_other s b other
  have moved : (startWait (earlyStored b s)).rxLen + (startWait (earlyStored b s)).rxNeed = s.rxLen + s.rxNeed := by
    show s.rxLen + 1 + (s.rxNeed - 1) = s.rxLen + s.rxNeed
    omega
  have need : 1 ≤ (startWait (earlyStored b s)).rxNeed := Nat.le_sub_one_of_lt early
  refine inv_of_sameStore inv rfl rfl rfl (.inr rfl) ?_ (.inl running)
  rcases reading with fixed | varying
  · obtain ⟨mine, begun, -, f, function, sum⟩ := (sequencerOk_readFixedFields fixed).1 sequencer
    refine (sequencerOk_readFixedFields (s := startWait (earlyStored b s)) fixed).2
      ⟨?_, Nat.le_succ_of_le begun, need, f, ?_, moved.trans sum⟩
    · exact (before (by omega)).trans mine
    · rw [before (by omega), function]
  · obtain ⟨mine, begun, -, varies, sum⟩ := (sequencerOk_readVariableFields varying).1 sequencer
    refine (sequencerOk_readVariableFields (s := startWait (earlyStored b s)) varying).2
      ⟨?_, Nat.le_succ_of_le begun, need, ?_, ?_⟩
    · exact (before (by omega)).trans mine
    · rw [readsVariablePart, before (by omega)]; exact varies
    · rw [moved, sum, before (by omega)]

/-- Which functions have a variable part, from the function code in the buffer. -/
theorem readsVariablePart_of_function {s : State} {f : FunctionCode} (function : functionOfByte (rxAt s 1) = some f) :
    readsVariablePart s = hasVariablePart f := by
  rw [readsVariablePart, function]

/-- The byte-count has come (R283): the countdown is the byte-count and two. -/
theorem inv_counted {s : State} (inv : Inv s) (running : s.runStatus = .running) (fixed : s.rxState = .readFixedFields)
    (last : s.rxNeed = 1) (b : Byte) (varies : readsVariablePart (lastStored b s) = true) :
    Inv (startWait { lastStored b s with
      rxNeed := (rxAt (lastStored b s) 6).toNat + 2, rxState := .readVariableFields }) := by
  have ⟨_, sequencer, _⟩ := inv
  obtain ⟨mine, begun, -, f, function, sum⟩ := (sequencerOk_readFixedFields fixed).1 sequencer
  have before {j : Nat} (other : j ≠ s.rxLen) : rxAt (lastStored b s) j = rxAt s j := rxAt_rxAppend_other s b other
  have varies_f : hasVariablePart f = true := by
    rw [← readsVariablePart_of_function (s := lastStored b s) (by rw [before (by omega), function]), varies]
  rw [last, fixedLen_of_variable varies_f] at sum
  have length : (lastStored b s).rxLen = 7 := sum
  refine inv_of_sameStore inv rfl rfl rfl (.inr rfl) ((sequencerOk_readVariableFields rfl).2
    ⟨(before (by omega)).trans mine, length.ge, Nat.le_add_left 1 _, varies, ?_⟩) (.inl running)
  show (lastStored b s).rxLen + ((rxAt (lastStored b s) 6).toNat + 2) = 9 + (rxAt (lastStored b s) 6).toNat
  omega

/-- A complete frame: dropped or run. -/
theorem inv_completeFrame {s t : State} {b : Byte} (inv : Inv s) (running : s.runStatus = .running)
    (h : completeFrame (lastStored b s) = .next t) : Inv t := by
  have ⟨store, _, _, timers⟩ := inv
  obtain e | ⟨i, -, e⟩ | ⟨-, e⟩ := completeFrame_cases (lastStored b s)
  · cases e.symm.trans h
    exact inv_awaitId inv rfl rfl rfl rfl rfl rfl rfl
  · exact inv_exec (s := lastStored b s) store timers rfl running (e.symm.trans h)
  · cases e.symm.trans h

theorem ByteInput.inv {b : Byte} {s t : State} {outcome : Host.Outcome State Fault Refusal}
    (kind : ByteInput b s outcome) (inv : Inv s) (running : s.runStatus = .running) (h : outcome = .next t) : Inv t := by
  cases kind with
  | awaitId waiting => cases h; exact inv_awaitIdByte inv running waiting b
  | awaitFunction waiting => cases h; exact inv_awaitFunctionByte inv running waiting b
  | silenceWait => cases h; exact inv_startWait inv running
  | corrupt | overrun => cases h
  | stored reading _ early => cases h; exact inv_earlyStored inv running reading early b
  | counted fixed _ last varies => cases h; exact inv_counted inv running fixed last b varies
  | completed => exact inv_completeFrame inv running h

/-- Settles O32: every kind of step keeps the invariant. -/
theorem stepKeepsTheInvariant : Obligations.StepKeepsTheInvariant := by
  intro s t inv h
  obtain ⟨waiting, e⟩ | e | ⟨b, rest, -, ⟨running, e⟩ | e⟩ | ⟨rest, kind⟩ := step_kind s
  · cases e.symm.trans h
    exact (OtherInput.completed waiting).inv inv rfl
  · cases e.symm.trans h
    exact inv
  · exact (byteStep_kind b (withInputs rest s)).inv inv running (e.symm.trans h)
  · cases e.symm.trans h
    exact inv
  · exact kind.inv inv h

/-! ## No step faults -/

theorem next_ne_fault (t : State) (r : Fault) : (.next t : Host.Outcome State Fault Refusal) ≠ .fault r := nofun

theorem OtherInput.ne_fault {s : State} {outcome : Host.Outcome State Fault Refusal} (kind : OtherInput s outcome)
    (r : Fault) : outcome ≠ .fault r := by
  cases kind with
  | refused => exact nofun
  | _ => exact next_ne_fault _ r

/-- Under the invariant the last byte of a frame makes it as long as the length tables say (R287). -/
theorem decode_lastStored {s : State} (inv : Inv s) {b : Byte}
    (part : (s.rxState = .readFixedFields ∧ readsVariablePart (lastStored b s) = false)
      ∨ s.rxState = .readVariableFields) (room : s.rxLen < bufSize) (last : s.rxNeed = 1) :
    ∃ i, decode (rxFrame (lastStored b s)) = .ok (i, []) := by
  obtain ⟨-, sequencer, -⟩ := inv
  have before {j : Nat} (other : j ≠ s.rxLen) : rxAt (lastStored b s) j = rxAt s j := rxAt_rxAppend_other s b other
  rcases part with ⟨fixed, whole⟩ | varying
  · obtain ⟨-, begun, -, f, function, sum⟩ := (sequencerOk_readFixedFields fixed).1 sequencer
    have function' : functionOfByte (rxAt (lastStored b s) 1) = some f := by rw [before (by omega), function]
    rw [readsVariablePart_of_function function'] at whole
    refine decode_rxFrame function' ?_ room
    rw [whole, if_neg (by decide), Nat.add_zero, ← sum, last]
    rfl
  · obtain ⟨-, begun, -, varies, sum⟩ := (sequencerOk_readVariableFields varying).1 sequencer
    cases function : functionOfByte (rxAt s 1) with
    | none => rw [readsVariablePart, function] at varies; cases varies
    | some f =>
      rw [readsVariablePart_of_function function] at varies
      refine decode_rxFrame (by rw [before (by omega), function]) ?_ room
      rw [fixedLen_of_variable varies, if_pos varies, before (by omega)]
      show s.rxLen + 1 = _
      omega

theorem exec_ne_fault (i : Instr) (s : State) (r : Fault) : exec i s ≠ .fault r := by
  rw [exec_eq]
  exact next_ne_fault _ r

/-- The three faults need contents of the sequencing registers that the invariant rules out (log 20). -/
theorem ByteInput.ne_fault {b : Byte} {s : State} {outcome : Host.Outcome State Fault Refusal}
    (kind : ByteInput b s outcome) (inv : Inv s) (r : Fault) : outcome ≠ .fault r := by
  have ⟨_, sequencer, _⟩ := inv
  cases kind with
  | awaitId | awaitFunction | silenceWait | stored | counted => exact next_ne_fault _ r
  | corrupt reading none =>
    rcases reading with fixed | varying
    · obtain ⟨-, -, need, -⟩ := (sequencerOk_readFixedFields fixed).1 sequencer
      omega
    · obtain ⟨-, -, need, -⟩ := (sequencerOk_readVariableFields varying).1 sequencer
      omega
  | overrun reading full =>
    rcases reading with fixed | varying
    · obtain ⟨-, -, -, f, -, sum⟩ := (sequencerOk_readFixedFields fixed).1 sequencer
      have table : fixedLen f ≤ 6 := by cases f <;> decide
      simp only [bufSize] at full
      omega
    · obtain ⟨-, -, -, -, sum⟩ := (sequencerOk_readVariableFields varying).1 sequencer
      have byte := (rxAt s 6).isLt
      simp only [bufSize] at full
      omega
  | completed part room last =>
    obtain ⟨i, decoded⟩ := decode_lastStored inv part room last
    obtain e | ⟨i', -, e⟩ | ⟨undecoded, -⟩ := completeFrame_cases (lastStored b s)
    · rw [e]; exact next_ne_fault _ r
    · rw [e]; exact exec_ne_fault i' _ r
    · exact absurd decoded (undecoded i)

/-- Settles O33: only a byte could fault, and the invariant rules each of the three faults out. -/
theorem noStepFaultsUnderTheInvariant : Obligations.NoStepFaultsUnderTheInvariant := by
  intro s r inv
  obtain ⟨-, e⟩ | e | ⟨b, rest, -, ⟨-, e⟩ | e⟩ | ⟨rest, kind⟩ := step_kind s
  · rw [e]; exact next_ne_fault _ r
  · rw [e]; exact next_ne_fault _ r
  · rw [e]; exact (byteStep_kind b (withInputs rest s)).ne_fault inv r
  · rw [e]; exact next_ne_fault _ r
  · exact kind.ne_fault r

end Sys2Proof.Machine
end
